-- ==== Sys2Proof/Word.lean ====
section
/-! DEFINITION. The plain word types of the block: bytes, 32-bit words and one-bit levels (R10, R11, R14, R15). -/

namespace Sys2Proof

/-- An 8-bit value: a counter, an expected click count, or a byte of a transport (R11, R52). -/
abbrev Byte := BitVec 8

/-- A 32-bit value: a command word, a time or duration in milliseconds, a result (R10, R70, R80). -/
abbrev Word := BitVec 32

/-- A one-bit level: `true` is 1, pressed; `false` is 0, released (R14, R15). -/
abbrev Level := Bool

end Sys2Proof
end

