-- ==== Sys2Proof/Syntax.lean ====
section
/-! DEFINITION. The commands of the block, one constructor per row of the opcode table (R75), the three
words a command arrives in (R70) and the reasons a command is turned away (R202). -/

namespace Sys2Proof

/-- One command of the block. `l` is the level operand, `nv` and `n` the qualifier of an event query,
`time` the `TIME` operand and `ms` the `ARG` operand (R71 to R74). -/
inductive Instr where
  /-- NOP (R145). -/
  | nop
  /-- TICK: debounce the raw level, then poll (R143). -/
  | tick (l : Level) (time : Word)
  /-- DEBOUNCE: one sample of the debounce filter (R101). -/
  | debounce (l : Level) (time : Word)
  /-- POLL: one evaluation of the gesture machine (R142). -/
  | poll (l : Level) (time : Word)
  /-- RESET: clear the gesture state (R144). -/
  | reset
  /-- GET_STATE (R177). -/
  | getState
  /-- GET_CLICKS (R175). -/
  | getClicks
  /-- GET_STEPS (R176). -/
  | getSteps
  /-- GET_LEVEL (R178). -/
  | getLevel
  /-- GET_PRESS_TIME (R182). -/
  | getPressTime (time : Word)
  /-- GET_HOLD_TIME (R183). -/
  | getHoldTime (time : Word)
  /-- GET_STEP_TIME (R184). -/
  | getStepTime (time : Word)
  /-- EV_PRESS (R163). -/
  | evPress (nv : Bool) (n : Byte)
  /-- EV_CLICK (R164). -/
  | evClick (nv : Bool) (n : Byte)
  /-- EV_HOLD (R165). -/
  | evHold (nv : Bool) (n : Byte)
  /-- EV_RELEASE_HOLD (R166). -/
  | evReleaseHold (nv : Bool) (n : Byte)
  /-- EV_STEP (R167). -/
  | evStep (nv : Bool) (n : Byte)
  /-- EV_RELEASE_STEP (R168). -/
  | evReleaseStep (nv : Bool) (n : Byte)
  /-- EV_RELEASE (R169). -/
  | evRelease (nv : Bool) (n : Byte)
  /-- EV_HAS_CLICKS (R170). -/
  | evHasClicks (nv : Bool) (n : Byte)
  /-- EV_TIMEOUT (R171). -/
  | evTimeout (nv : Bool) (n : Byte)
  /-- IS_EVENT (R172). -/
  | isEvent
  /-- IS_PRESSING (R174). -/
  | isPressing
  /-- PRESS_FOR (R185). -/
  | pressFor (time ms : Word)
  /-- HOLD_FOR (R186). -/
  | holdFor (time ms : Word)
  /-- STEP_FOR (R187). -/
  | stepFor (time ms : Word)
deriving DecidableEq, Repr

/-- A command as the port takes it: the control word W0, the `TIME` word W1 and the `ARG` word W2 (R70). -/
structure Command where
  w0 : Word
  w1 : Word
  w2 : Word
deriving DecidableEq, Repr

/-- Why a command is turned away, the block's only error mechanism (R201, R202). None is a stop of the machine:
the command's response carries the code and no register is written (R204). -/
inductive CommandError where
  /-- Status 1: the opcode is reserved (R76). -/
  | illegalOpcode
  /-- Status 2: a reserved or unused field is not zero (R77). -/
  | reservedField
  /-- Status 3: `NV = 1` on a command that takes no qualifier (R77). -/
  | qualifierNotAllowed
deriving DecidableEq, Repr

end Sys2Proof
end

