-- ==== Sys2Proof/WellFormed.lean ====
section
/-! DEFINITION. Which command terms an encoding admits: an event query without a qualifier has `N = 0` (R74, R77).
Every other operand's type admits exactly the values its field admits. -/

namespace Sys2Proof

/-- The qualifier operands an event query's encoding admits: `N` is 0 unless `NV` is 1 (R74, the mark `0*`). -/
def qualifierWf (nv : Bool) (n : Byte) : Bool :=
  nv || n == 0#8

/-- The command terms that have an encoding. -/
def Instr.wellFormed : Instr → Bool
  | .nop => true
  | .tick _ _ => true
  | .debounce _ _ => true
  | .poll _ _ => true
  | .reset => true
  | .getState => true
  | .getClicks => true
  | .getSteps => true
  | .getLevel => true
  | .getPressTime _ => true
  | .getHoldTime _ => true
  | .getStepTime _ => true
  | .evPress nv n => qualifierWf nv n
  | .evClick nv n => qualifierWf nv n
  | .evHold nv n => qualifierWf nv n
  | .evReleaseHold nv n => qualifierWf nv n
  | .evStep nv n => qualifierWf nv n
  | .evReleaseStep nv n => qualifierWf nv n
  | .evRelease nv n => qualifierWf nv n
  | .evHasClicks nv n => qualifierWf nv n
  | .evTimeout nv n => qualifierWf nv n
  | .isEvent => true
  | .isPressing => true
  | .pressFor _ _ => true
  | .holdFor _ _ => true
  | .stepFor _ _ => true

end Sys2Proof
end

