-- ==== Sys2Proof/Decode.lean ====
section
/-! DEFINITION. The decoder of a command (R78), total on every 96-bit value, the framing of a byte transport
(R52, R53), and the encoder (R71, R74, R84). -/

namespace Sys2Proof

/-! ## The fields of a command (R71 to R73, R79) -/

/-- `OP`, W0 bits 4:0. -/
def Command.op (c : Command) : BitVec 5 := c.w0.extractLsb' 0 5

/-- `L`, W0 bit 8. -/
def Command.level (c : Command) : Level := c.w0.getLsbD 8

/-- `NV`, W0 bit 9. -/
def Command.qualValid (c : Command) : Bool := c.w0.getLsbD 9

/-- `N`, W0 bits 23:16. -/
def Command.count (c : Command) : Byte := c.w0.extractLsb' 16 8

/-- Whether a reserved bit of W0 is 1: bits 7:5, 15:10 or 31:24 (R71, R77). -/
def Command.reservedBitSet (c : Command) : Bool :=
  c.w0.extractLsb' 5 3 != 0#3 || c.w0.extractLsb' 10 6 != 0#6 || c.w0.extractLsb' 24 8 != 0#8

/-! ## What each command takes (R74) -/

/-- Whether the command uses the level operand `L` (R74). -/
def Instr.takesLevel : Instr → Bool
  | .tick _ _ | .debounce _ _ | .poll _ _ => true
  | .nop | .reset | .getState | .getClicks | .getSteps | .getLevel
  | .getPressTime _ | .getHoldTime _ | .getStepTime _
  | .evPress _ _ | .evClick _ _ | .evHold _ _ | .evReleaseHold _ _ | .evStep _ _ | .evReleaseStep _ _
  | .evRelease _ _ | .evHasClicks _ _ | .evTimeout _ _
  | .isEvent | .isPressing | .pressFor _ _ | .holdFor _ _ | .stepFor _ _ => false

/-- Whether the command takes a qualifier: exactly the nine event queries (R74, `EVENT_QUERIES` of R78). -/
def Instr.takesQualifier : Instr → Bool
  | .evPress _ _ | .evClick _ _ | .evHold _ _ | .evReleaseHold _ _ | .evStep _ _ | .evReleaseStep _ _
  | .evRelease _ _ | .evHasClicks _ _ | .evTimeout _ _ => true
  | .nop | .tick _ _ | .debounce _ _ | .poll _ _ | .reset
  | .getState | .getClicks | .getSteps | .getLevel
  | .getPressTime _ | .getHoldTime _ | .getStepTime _
  | .isEvent | .isPressing | .pressFor _ _ | .holdFor _ _ | .stepFor _ _ => false

/-- Whether the command uses W1, the `TIME` operand (R74, `TIME_USERS` of R78). -/
def Instr.takesTime : Instr → Bool
  | .tick _ _ | .debounce _ _ | .poll _ _
  | .getPressTime _ | .getHoldTime _ | .getStepTime _
  | .pressFor _ _ | .holdFor _ _ | .stepFor _ _ => true
  | .nop | .reset | .getState | .getClicks | .getSteps | .getLevel
  | .evPress _ _ | .evClick _ _ | .evHold _ _ | .evReleaseHold _ _ | .evStep _ _ | .evReleaseStep _ _
  | .evRelease _ _ | .evHasClicks _ _ | .evTimeout _ _
  | .isEvent | .isPressing => false

/-- Whether the command uses W2, the `ARG` operand (R74). -/
def Instr.takesArg : Instr → Bool
  | .pressFor _ _ | .holdFor _ _ | .stepFor _ _ => true
  | .nop | .tick _ _ | .debounce _ _ | .poll _ _ | .reset
  | .getState | .getClicks | .getSteps | .getLevel
  | .getPressTime _ | .getHoldTime _ | .getStepTime _
  | .evPress _ _ | .evClick _ _ | .evHold _ _ | .evReleaseHold _ _ | .evStep _ _ | .evReleaseStep _ _
  | .evRelease _ _ | .evHasClicks _ _ | .evTimeout _ _
  | .isEvent | .isPressing => false

/-! ## Decoding -/

/-- The command an opcode stands for, with its operands taken from the command's fields; none for the six
reserved opcodes (R75, R76). -/
def instrOfOpcode (op : BitVec 5) (l : Level) (nv : Bool) (n : Byte) (time arg : Word) : Option Instr :=
  match op with
  | 0x00#5 => some .nop
  | 0x01#5 => some (.tick l time)
  | 0x02#5 => some (.debounce l time)
  | 0x03#5 => some (.poll l time)
  | 0x04#5 => some .reset
  | 0x08#5 => some .getState
  | 0x09#5 => some .getClicks
  | 0x0A#5 => some .getSteps
  | 0x0B#5 => some .getLevel
  | 0x0C#5 => some (.getPressTime time)
  | 0x0D#5 => some (.getHoldTime time)
  | 0x0E#5 => some (.getStepTime time)
  | 0x10#5 => some (.evPress nv n)
  | 0x11#5 => some (.evClick nv n)
  | 0x12#5 => some (.evHold nv n)
  | 0x13#5 => some (.evReleaseHold nv n)
  | 0x14#5 => some (.evStep nv n)
  | 0x15#5 => some (.evReleaseStep nv n)
  | 0x16#5 => some (.evRelease nv n)
  | 0x17#5 => some (.evHasClicks nv n)
  | 0x18#5 => some (.evTimeout nv n)
  | 0x19#5 => some .isEvent
  | 0x1A#5 => some .isPressing
  | 0x1C#5 => some (.pressFor time arg)
  | 0x1D#5 => some (.holdFor time arg)
  | 0x1E#5 => some (.stepFor time arg)
  | _ => none

/-- The decoder of R78: the checks in the order the rule gives them, the first that fails deciding the error
(R203). -/
def decode (c : Command) : Except CommandError Instr :=
  match instrOfOpcode c.op c.level c.qualValid c.count c.w1 c.w2 with
  | none => .error .illegalOpcode
  | some i =>
    if c.qualValid && !i.takesQualifier then .error .qualifierNotAllowed
    else if c.reservedBitSet then .error .reservedField
    else if c.level && !i.takesLevel then .error .reservedField
    else if !c.qualValid && c.count != 0#8 then .error .reservedField
    else if c.w1 != 0#32 && !i.takesTime then .error .reservedField
    else if c.w2 != 0#32 && !i.takesArg then .error .reservedField
    else .ok i

/-! ## A byte transport (R52, R53) -/

/-- The four bytes of a word on a byte transport, bits 7:0 first (R52). -/
def wordBytes (w : Word) : List Byte :=
  [w.extractLsb' 0 8, w.extractLsb' 8 8, w.extractLsb' 16 8, w.extractLsb' 24 8]

/-- The word four transported bytes make, the first in bits 7:0 (R52). -/
def wordOfBytes (b0 b1 b2 b3 : Byte) : Word := b3 ++ b2 ++ b1 ++ b0

/-- The twelve bytes of a command on a byte transport, in the order W0, W1, W2 (R52). -/
def Command.bytes (c : Command) : List Byte :=
  wordBytes c.w0 ++ wordBytes c.w1 ++ wordBytes c.w2

/-- The commands a byte transport delivers: every whole group of twelve bytes is one command (R52), and what is
left over, fewer than 96 bits, delivers none (R53). DESIGN CHOICE (log 7): the groups are counted from the first byte
of what is delivered together. Unsafe: a transport that frames otherwise delivers other commands. -/
def commandsOfBytes : List Byte → List Command
  | b0 :: b1 :: b2 :: b3 :: b4 :: b5 :: b6 :: b7 :: b8 :: b9 :: b10 :: b11 :: rest =>
    ⟨wordOfBytes b0 b1 b2 b3, wordOfBytes b4 b5 b6 b7, wordOfBytes b8 b9 b10 b11⟩ :: commandsOfBytes rest
  | _ => []

/-- Decoding from bytes, total on any bytes: none where fewer than twelve bytes stand there, since no command has
then been delivered (R53), else what the first command decodes to, and the bytes after it. -/
def decodeBytes (bs : List Byte) : Option (Except CommandError Instr × List Byte) :=
  match commandsOfBytes bs with
  | [] => none
  | c :: _ => some (decode c, bs.drop 12)

/-! ## Encoding -/

/-- The opcode of a command (R75). -/
def Instr.opcode : Instr → BitVec 5
  | .nop => 0x00#5
  | .tick _ _ => 0x01#5
  | .debounce _ _ => 0x02#5
  | .poll _ _ => 0x03#5
  | .reset => 0x04#5
  | .getState => 0x08#5
  | .getClicks => 0x09#5
  | .getSteps => 0x0A#5
  | .getLevel => 0x0B#5
  | .getPressTime _ => 0x0C#5
  | .getHoldTime _ => 0x0D#5
  | .getStepTime _ => 0x0E#5
  | .evPress _ _ => 0x10#5
  | .evClick _ _ => 0x11#5
  | .evHold _ _ => 0x12#5
  | .evReleaseHold _ _ => 0x13#5
  | .evStep _ _ => 0x14#5
  | .evReleaseStep _ _ => 0x15#5
  | .evRelease _ _ => 0x16#5
  | .evHasClicks _ _ => 0x17#5
  | .evTimeout _ _ => 0x18#5
  | .isEvent => 0x19#5
  | .isPressing => 0x1A#5
  | .pressFor _ _ => 0x1C#5
  | .holdFor _ _ => 0x1D#5
  | .stepFor _ _ => 0x1E#5

/-- W0 from its fields, the reserved bits 0 (R71). -/
def controlWord (op : BitVec 5) (l : Level) (nv : Bool) (n : Byte) : Word :=
  0#8 ++ n ++ 0#6 ++ BitVec.ofBool nv ++ BitVec.ofBool l ++ 0#3 ++ op

/-- The operands of a command as the fields `L`, `NV`, `N`, W1 and W2, an unused one 0 (R74). -/
def Instr.operands : Instr → Level × Bool × Byte × Word × Word
  | .tick l t | .debounce l t | .poll l t => (l, false, 0#8, t, 0#32)
  | .getPressTime t | .getHoldTime t | .getStepTime t => (false, false, 0#8, t, 0#32)
  | .evPress nv n | .evClick nv n | .evHold nv n | .evReleaseHold nv n | .evStep nv n | .evReleaseStep nv n
  | .evRelease nv n | .evHasClicks nv n | .evTimeout nv n => (false, nv, n, 0#32, 0#32)
  | .pressFor t ms | .holdFor t ms | .stepFor t ms => (false, false, 0#8, t, ms)
  | .nop | .reset | .getState | .getClicks | .getSteps | .getLevel | .isEvent | .isPressing =>
    (false, false, 0#8, 0#32, 0#32)

/-- The three words of a command (R70 to R74, R84). -/
def encode (i : Instr) : Command :=
  match i.operands with
  | (l, nv, n, time, arg) => ⟨controlWord i.opcode l nv n, time, arg⟩

/-! ## The opcode table's numbering -/

/-- The command whose bits are `w`, bit 0 the least significant bit of W0, W1 in bits 63:32 and W2 in bits 95:64;
the bits from `nbits` up are 0 (log 14). -/
def Command.ofTableBits (nbits w : Nat) : Command :=
  let bits := BitVec.ofNat 96 (w % 2 ^ nbits)
  ⟨bits.extractLsb' 0 32, bits.extractLsb' 32 32, bits.extractLsb' 64 32⟩

/-- The command the decoder reads from an opcode-table word; none where it answers an error. -/
def decodeTableWord (nbits w : Nat) : Option Instr :=
  match decode (Command.ofTableBits nbits w) with
  | .ok i => some i
  | .error _ => none

end Sys2Proof
end

