-- ==== Sys2Proof/Config.lean ====
section
/-! DEFINITION. The implementation parameters: the six thresholds fixed when the block is built (R9, R29). -/

namespace Sys2Proof

/-- The configuration record `cfg` of R9: six unsigned 32-bit numbers of milliseconds, every value legal,
read and written by no command (R29). -/
structure Cfg where
  /-- `DEBOUNCE_MS`: settle time of the debounce filter (R100). -/
  debounceMs : Word
  /-- `HOLD_MS`: press time before Hold (R126). -/
  holdMs : Word
  /-- `STEP_MS`: hold time before the first Step (R129). -/
  stepMs : Word
  /-- `STEP_PERIOD_MS`: period of repeated Steps (R132). -/
  stepPeriodMs : Word
  /-- `CLICK_WINDOW_MS`: release time that ends a multi-click sequence (R137). -/
  clickWindowMs : Word
  /-- `TIMEOUT_MS`: idle time after interaction before Timeout (R140). -/
  timeoutMs : Word
deriving DecidableEq, Repr

/-- The default thresholds of R9 (unaudited literals, R6). -/
def Cfg.defaults : Cfg where
  debounceMs := 50#32
  holdMs := 1000#32
  stepMs := 400#32
  stepPeriodMs := 1000#32
  clickWindowMs := 500#32
  timeoutMs := 1000#32

end Sys2Proof
end

