-- ==== Sys2Proof/Machine/State.lean ====
section
/-! DEFINITION. The state of the block: the eight registers of R20 and the model's own fields (the configuration the
block was built with, what has reached its inputs, the response it returned last). The block has no memory (R50). -/

namespace Sys2Proof.Machine

/-- The gesture state, exactly the 15 constructors R21 asks for, in the order of its codes. -/
inductive Gesture where
  | idle
  | press
  | waitHold
  | hold
  | waitStep
  | step
  | waitNextStep
  | releaseHold
  | releaseStep
  | click
  | release
  | waitClicks
  | clicks
  | waitTimeout
  | timeout
deriving DecidableEq, Repr

/-- What can reach the block from outside, between commands. -/
inductive Input where
  /-- A whole command on the command port (R51, R53, R70). -/
  | command (c : Command)
  /-- The reset input is asserted (R230). -/
  | resetInput
deriving DecidableEq, Repr

/-- The response of a command: a 2-bit status and a 32-bit result (R80). -/
structure Response where
  status : BitVec 2
  result : Word
deriving DecidableEq, Repr

/-- The state. The first eight fields are the block's registers (R20); the last three are the model's own. -/
structure State where
  /-- The gesture state (R21). -/
  state : Gesture
  /-- Completed clicks since the last multi-click resolution, saturating (R22). -/
  clickCount : Byte
  /-- Completed repeat pulses of a stepped hold, saturating (R23). -/
  stepCount : Byte
  /-- The last debounced level (R24). -/
  stableLevel : Level
  /-- The most recent raw level observed (R25). -/
  dbCandidate : Level
  /-- Whether a settle timer is running (R26). -/
  dbPending : Bool
  /-- When the running settle timer was started (R27). -/
  dbTimestamp : Word
  /-- The state-entry timestamp (R28). -/
  stateEnteredAt : Word
  /-- The thresholds the block was built with: configuration, which no step writes (R9, R29).
  DESIGN CHOICE (log 1): carried here so that statements hold for every value. -/
  cfg : Cfg
  /-- What has reached the block and is not yet acted on, oldest first (R57).
  DESIGN CHOICE (log 2). -/
  input : List Input
  /-- The response the port returned last, none since power-on reset: output, no register (R33, R80).
  DESIGN CHOICE (log 4). -/
  response : Option Response
deriving DecidableEq, Repr

/-- The reasons the machine stops with a fault: none. The block has no trap (R200, R210); a malformed command ends with an
error status and the machine goes on (R201, R204; log 16). -/
inductive Fault where
deriving DecidableEq, Repr

/-- The reasons a step can be refused. -/
inductive Refusal where
  /-- Raised only by an arm of `exec` for an instruction without a meaning; every instruction has one, so no
  step raises it. Safe: it only leaves statements unprovable. -/
  | notModelled (mnemonic : String)
deriving DecidableEq, Repr

/-- The machine right after power-on reset (R230), built with the default thresholds of R9 (DESIGN CHOICE, log 1;
unsafe for a statement that rests on a default value), with nothing delivered yet (R231; log 2) and no response
returned (log 4). -/
def State.reset : State where
  state := .idle
  clickCount := 0#8
  stepCount := 0#8
  stableLevel := false
  dbCandidate := false
  dbPending := false
  dbTimestamp := 0#32
  stateEnteredAt := 0#32
  cfg := Cfg.defaults
  input := []
  response := none

end Sys2Proof.Machine
end

