-- ==== Sys2Proof/Machine/Flags.lean ====
section
/-! DEFINITION. The flags of the block: computed from `state` and `clickCount`, never stored (R32, R161, R162, R172,
R173). -/

namespace Sys2Proof.Machine

/-- Whether the machine is in the given gesture state: the flag of R161 for an event state. -/
def inState (g : Gesture) (s : State) : Bool := decide (s.state = g)

/-- The qualified event query of R162: the flag, and the count where a qualifier is given. -/
def evq (flag nv : Bool) (n count : Byte) : Bool := flag && (!nv || count == n)

/-- The nine event states (R120, R172). -/
def Gesture.isEvent : Gesture → Bool
  | .press | .click | .hold | .releaseHold | .step | .releaseStep | .release | .clicks | .timeout => true
  | .idle | .waitHold | .waitStep | .waitNextStep | .waitClicks | .waitTimeout => false

/-- The press-holding subset `PRESSING` (R173). -/
def Gesture.pressing : Gesture → Bool
  | .press | .waitHold | .hold | .waitStep | .step | .waitNextStep => true
  | .idle | .releaseHold | .releaseStep | .click | .release | .waitClicks | .clicks | .waitTimeout | .timeout => false

/-- The hold subset `HOLDING` (R173). -/
def Gesture.holding : Gesture → Bool
  | .hold | .waitStep | .step | .waitNextStep => true
  | .idle | .press | .waitHold | .releaseHold | .releaseStep | .click | .release | .waitClicks | .clicks
  | .waitTimeout | .timeout => false

/-- The step subset `STEPPING` (R173). -/
def Gesture.stepping : Gesture → Bool
  | .step | .waitNextStep => true
  | .idle | .press | .waitHold | .hold | .waitStep | .releaseHold | .releaseStep | .click | .release | .waitClicks
  | .clicks | .waitTimeout | .timeout => false

end Sys2Proof.Machine
end

