-- ==== Sys2Proof/Machine/Operands.lean ====
section
/-! DEFINITION. The value operations the rules compute with: elapsed time, comparison with a threshold, the saturating
counter, the numeric codes, and the forms a result takes (R17, R18, R21, R80, R81, R202, R214). -/

namespace Sys2Proof.Machine

/-- `elapsed(now, then)`: the difference modulo 2^32 (R17). -/
def elapsed (now since : Word) : Word := now - since

/-- The timestamp comparators: unsigned `e >= threshold` (R120, R214). -/
def reached (threshold e : Word) : Bool := decide (threshold ≤ e)

/-- `sat_inc8`: one more, but 255 stays 255 (R11, R18). -/
def satInc8 (c : Byte) : Byte := if c = 255#8 then 255#8 else c + 1#8

/-- `zext_32` of a Boolean or a level (R14, R81). -/
def zextBool (b : Bool) : Word := if b then 1#32 else 0#32

/-- The numeric code of a gesture state (R21). -/
def Gesture.code : Gesture → BitVec 4
  | .idle => 0#4
  | .press => 1#4
  | .waitHold => 2#4
  | .hold => 3#4
  | .waitStep => 4#4
  | .step => 5#4
  | .waitNextStep => 6#4
  | .releaseHold => 7#4
  | .releaseStep => 8#4
  | .click => 9#4
  | .release => 10#4
  | .waitClicks => 11#4
  | .clicks => 12#4
  | .waitTimeout => 13#4
  | .timeout => 14#4

/-- The status code of a command error (R80, R202). -/
def errorStatus : CommandError → BitVec 2
  | .illegalOpcode => 1#2
  | .reservedField => 2#2
  | .qualifierNotAllowed => 3#2

/-- The read-out of a duration: exact below 2^32, else 0xFFFFFFFF (R81, R182 to R184). -/
def saturate32 (d : Nat) : Word := BitVec.ofNat 32 (min d 0xFFFFFFFF)

/-- The result of TICK: bit 0 is `changed`, bit 1 the stable level after the command, the rest 0 (R81, R143). -/
def tickResult (stable changed : Bool) : Word := 0#30 ++ BitVec.ofBool stable ++ BitVec.ofBool changed

/-- The five bytes of a response on a byte transport: the result word, bits 7:0 first, then the status in bits 1:0 of a
byte whose other bits are 0 (R52). -/
def Response.bytes (r : Response) : List Byte :=
  [r.result.extractLsb' 0 8, r.result.extractLsb' 8 8, r.result.extractLsb' 16 8, r.result.extractLsb' 24 8,
   0#6 ++ r.status]

end Sys2Proof.Machine
end

