-- ==== Sys2Proof/Machine/Ops.lean ====
section
/-! DEFINITION. The named operations on the state: the response, the one error mechanism, the debounce filter, one
evaluation of the gesture machine, the two resets, and the inputs. The block has no memory operation (R50). -/

namespace Sys2Proof.Machine

/-! ## The response and the error mechanism -/

/-- `respond(0, result)`: the command ends with status OK (R16, R80). -/
def State.respond (r : Word) (s : State) : State :=
  { s with response := some ⟨0#2, r⟩ }

/-- `raise CommandError(code)`: status `code`, result 0 and no register written (R201, R204). It is the block's only error
mechanism: nothing is saved, no mode changes, nothing returns from it (R210, R211). -/
def State.raiseCommandError (e : CommandError) (s : State) : State :=
  { s with response := some ⟨errorStatus e, 0#32⟩ }

/-! ## The debounce filter (R100) -/

/-- The raw level equals the stable level: the pending-change timer is cleared (R100). -/
def State.clearPending (raw : Level) (s : State) : State :=
  { s with dbCandidate := raw, dbPending := false }

/-- The settle timer is started at `now` when none is running, and left alone otherwise (R100). -/
def State.startSettleTimer (now : Word) (s : State) : State :=
  if s.dbPending then s else { s with dbTimestamp := now, dbPending := true }

/-- The most recent raw level is noted (R25, R100). -/
def State.noteCandidate (raw : Level) (s : State) : State :=
  { s with dbCandidate := raw }

/-- The candidate becomes the stable level and the timer is cleared (R100). -/
def State.commitLevel (raw : Level) (s : State) : State :=
  { s with stableLevel := raw, dbPending := false }

/-- `debounce(raw, now)` of R100; the function's value is `stableLevel` of the state it gives. -/
def debounce (raw : Level) (now : Word) (s : State) : State :=
  if raw = s.stableLevel then s.clearPending raw
  else
    let s1 := (s.startSettleTimer now).noteCandidate raw
    if reached s1.cfg.debounceMs (elapsed now s1.dbTimestamp) then s1.commitLevel raw else s1

/-! ## The gesture machine (R120) -/

/-- `state <- g`, nothing else written. -/
def State.enter (g : Gesture) (s : State) : State :=
  { s with state := g }

/-- "reset timer": `stateEnteredAt <- now` (R120). -/
def State.resetTimer (now : Word) (s : State) : State :=
  { s with stateEnteredAt := now }

/-- `clickCount <- sat_inc8(clickCount)` (R125). -/
def State.countClick (s : State) : State :=
  { s with clickCount := satInc8 s.clickCount }

/-- `clickCount <- 0` (R133, R138). -/
def State.clearClicks (s : State) : State :=
  { s with clickCount := 0#8 }

/-- `stepCount <- sat_inc8(stepCount)` (R132). -/
def State.countStep (s : State) : State :=
  { s with stepCount := satInc8 s.stepCount }

/-- `stepCount <- 0` (R135). -/
def State.clearSteps (s : State) : State :=
  { s with stepCount := 0#8 }

/-- `poll(level, now)` of R120: at most one row of the transition table, the level row before the threshold row
(R121). -/
def poll (level : Level) (now : Word) (s : State) : State :=
  let e := elapsed now s.stateEnteredAt
  match s.state with
  -- R123
  | .idle => if level then s.enter .press else s
  -- R124
  | .press => (s.enter .waitHold).resetTimer now
  -- R125, R126
  | .waitHold =>
    if !level then (s.enter .click).countClick
    else if reached s.cfg.holdMs e then (s.enter .hold).resetTimer now
    else s
  -- R127
  | .hold => s.enter .waitStep
  -- R128, R129
  | .waitStep =>
    if !level then s.enter .releaseHold
    else if reached s.cfg.stepMs e then (s.enter .step).resetTimer now
    else s
  -- R130
  | .step => s.enter .waitNextStep
  -- R131, R132
  | .waitNextStep =>
    if !level then s.enter .releaseStep
    else if reached s.cfg.stepPeriodMs e then ((s.enter .step).countStep).resetTimer now
    else s
  -- R133
  | .releaseHold => (s.enter .release).clearClicks
  | .releaseStep => (s.enter .release).clearClicks
  -- R134
  | .click => s.enter .release
  -- R135
  | .release =>
    if s.clickCount = 0#8 then ((s.enter .waitTimeout).clearSteps).resetTimer now
    else ((s.enter .waitClicks).clearSteps).resetTimer now
  -- R136, R137
  | .waitClicks =>
    if level then s.enter .press
    else if reached s.cfg.clickWindowMs e then (s.enter .clicks).resetTimer now
    else s
  -- R138
  | .clicks => (s.enter .waitTimeout).clearClicks
  -- R139, R140
  | .waitTimeout =>
    if level then s.enter .press
    else if reached s.cfg.timeoutMs e then s.enter .timeout
    else s
  -- R141
  | .timeout => s.enter .idle

/-- The value `poll` returns: whether `state` changed (R120, R122). -/
def changed (before after : State) : Bool := decide (after.state ≠ before.state)

/-! ## The two resets -/

/-- The RESET command's writes: the gesture state and the counters, nothing else (R144, R232). -/
def State.clearGesture (s : State) : State :=
  { s with state := .idle, clickCount := 0#8, stepCount := 0#8 }

/-- Power-on reset of a built block (R230): every register at its reset value. The configuration stays (R29).
DESIGN CHOICE (log 5): what is still waiting at the port stays, and no response has then been returned. -/
def State.powerOnReset (s : State) : State :=
  { s with
    state := .idle, clickCount := 0#8, stepCount := 0#8,
    stableLevel := false, dbCandidate := false, dbPending := false, dbTimestamp := 0#32,
    stateEnteredAt := 0#32, response := none }

/-! ## The inputs -/

/-- The oldest input, and the state without it (R57); none where nothing waits. -/
def State.takeInput (s : State) : Option (Input × State) :=
  match s.input with
  | [] => none
  | x :: rest => some (x, { s with input := rest })

/-- The host issues whole commands, after those already issued (R53, R57). -/
def State.deliver (cs : List Command) (s : State) : State :=
  { s with input := s.input ++ cs.map Input.command }

/-- A byte transport brings bytes: the whole commands in them are issued (R52, R53). -/
def State.deliverBytes (bs : List Byte) (s : State) : State :=
  s.deliver (commandsOfBytes bs)

/-- The reset input is asserted, after what has already arrived (R230; log 5). -/
def State.assertReset (s : State) : State :=
  { s with input := s.input ++ [Input.resetInput] }

/-- A command placed so that the next step takes it. -/
def State.placeCommand (c : Command) (s : State) : State :=
  { s with input := Input.command c :: s.input }

end Sys2Proof.Machine
end

