-- ==== Sys2Proof/Machine/Control.lean ====
section
/-! DEFINITION. The meanings of NOP and RESET (R144, R145). -/

namespace Sys2Proof.Machine

/-- NOP: no register is written (R145). -/
def execNop (s : State) : Host.Outcome State Fault Refusal :=
  .next (s.respond 0#32)

/-- RESET: Idle with both counters cleared; the debounce registers and `stateEnteredAt` stay (R144, R232). -/
def execReset (s : State) : Host.Outcome State Fault Refusal :=
  .next (s.clearGesture.respond 0#32)

end Sys2Proof.Machine
end

