-- ==== Sys2Proof/Machine/Events.lean ====
section
/-! DEFINITION. The meanings of the event queries EV_*, of IS_EVENT and of IS_PRESSING (R161 to R174). -/

namespace Sys2Proof.Machine

/-- The answer of the event query for the event state `g` (R161, R162). -/
def eventQuery (g : Gesture) (nv : Bool) (n : Byte) (s : State) : Word :=
  zextBool (evq (inState g s) nv n s.clickCount)

/-- EV_PRESS: the flag of Press, with the qualifier where one is given (R163). -/
def execEvPress (nv : Bool) (n : Byte) (s : State) : Host.Outcome State Fault Refusal :=
  .next (s.respond (eventQuery .press nv n s))

/-- EV_CLICK: the flag of Click, with the qualifier where one is given (R164). -/
def execEvClick (nv : Bool) (n : Byte) (s : State) : Host.Outcome State Fault Refusal :=
  .next (s.respond (eventQuery .click nv n s))

/-- EV_HOLD: the flag of Hold, with the qualifier where one is given (R165). -/
def execEvHold (nv : Bool) (n : Byte) (s : State) : Host.Outcome State Fault Refusal :=
  .next (s.respond (eventQuery .hold nv n s))

/-- EV_RELEASE_HOLD: the flag of ReleaseHold, with the qualifier where one is given (R166). -/
def execEvReleaseHold (nv : Bool) (n : Byte) (s : State) : Host.Outcome State Fault Refusal :=
  .next (s.respond (eventQuery .releaseHold nv n s))

/-- EV_STEP: the flag of Step, with the qualifier where one is given (R167). -/
def execEvStep (nv : Bool) (n : Byte) (s : State) : Host.Outcome State Fault Refusal :=
  .next (s.respond (eventQuery .step nv n s))

/-- EV_RELEASE_STEP: the flag of ReleaseStep, with the qualifier where one is given (R168). -/
def execEvReleaseStep (nv : Bool) (n : Byte) (s : State) : Host.Outcome State Fault Refusal :=
  .next (s.respond (eventQuery .releaseStep nv n s))

/-- EV_RELEASE: the flag of Release, with the qualifier where one is given (R169). -/
def execEvRelease (nv : Bool) (n : Byte) (s : State) : Host.Outcome State Fault Refusal :=
  .next (s.respond (eventQuery .release nv n s))

/-- EV_HAS_CLICKS: the flag of Clicks, with the qualifier where one is given (R170). -/
def execEvHasClicks (nv : Bool) (n : Byte) (s : State) : Host.Outcome State Fault Refusal :=
  .next (s.respond (eventQuery .clicks nv n s))

/-- EV_TIMEOUT: the flag of Timeout, with the qualifier where one is given (R171). -/
def execEvTimeout (nv : Bool) (n : Byte) (s : State) : Host.Outcome State Fault Refusal :=
  .next (s.respond (eventQuery .timeout nv n s))

/-- IS_EVENT: whether the machine is in an event state (R172). -/
def execIsEvent (s : State) : Host.Outcome State Fault Refusal :=
  .next (s.respond (zextBool s.state.isEvent))

/-- IS_PRESSING: whether the machine is in the press-holding subset, read from `state` alone (R174). -/
def execIsPressing (s : State) : Host.Outcome State Fault Refusal :=
  .next (s.respond (zextBool s.state.pressing))

end Sys2Proof.Machine
end

