-- ==== Sys2Proof/Machine/Filter.lean ====
section
/-! DEFINITION. The meaning of DEBOUNCE (R101). -/

namespace Sys2Proof.Machine

/-- DEBOUNCE: one sample of the filter; the result is the stable level after it (R101). -/
def execDebounce (l : Level) (time : Word) (s : State) : Host.Outcome State Fault Refusal :=
  let d := debounce l time s
  .next (d.respond (zextBool d.stableLevel))

end Sys2Proof.Machine
end

