-- ==== Sys2Proof/Machine/Polling.lean ====
section
/-! DEFINITION. The meanings of POLL and TICK (R142, R143). -/

namespace Sys2Proof.Machine

/-- POLL: one evaluation of the gesture machine with `l` as given, the filter neither read nor written (R142). -/
def execPoll (l : Level) (time : Word) (s : State) : Host.Outcome State Fault Refusal :=
  let p := poll l time s
  .next (p.respond (zextBool (changed s p)))

/-- TICK: the filter first, then the gesture machine on the stable level it gives, both at the same `time` (R143). -/
def execTick (l : Level) (time : Word) (s : State) : Host.Outcome State Fault Refusal :=
  let d := debounce l time s
  let p := poll d.stableLevel time d
  .next (p.respond (tickResult d.stableLevel (changed d p)))

end Sys2Proof.Machine
end

