-- ==== Sys2Proof/Machine/Durations.lean ====
section
/-! DEFINITION. The press, hold and step durations, exact on natural numbers (R19, R179 to R181). -/

namespace Sys2Proof.Machine

/-- The elapsed time of the current phase as a natural number: `e` of R179. -/
def phaseTime (t : Word) (s : State) : Nat := (elapsed t s.stateEnteredAt).toNat

/-- The repeat periods counted so far: `stepCount * STEP_PERIOD_MS` (R179). -/
def repeatTime (s : State) : Nat := s.stepCount.toNat * s.cfg.stepPeriodMs.toNat

/-- `pressDuration(t)` (R179). -/
def pressDuration (t : Word) (s : State) : Nat :=
  match s.state with
  | .press => 0
  | .waitHold => phaseTime t s
  | .hold | .waitStep => s.cfg.holdMs.toNat + phaseTime t s
  | .step | .waitNextStep => s.cfg.holdMs.toNat + s.cfg.stepMs.toNat + repeatTime s + phaseTime t s
  | .idle | .releaseHold | .releaseStep | .click | .release | .waitClicks | .clicks | .waitTimeout | .timeout => 0

/-- `holdDuration(t)` (R180). -/
def holdDuration (t : Word) (s : State) : Nat :=
  match s.state with
  | .hold | .waitStep => phaseTime t s
  | .step | .waitNextStep => s.cfg.stepMs.toNat + repeatTime s + phaseTime t s
  | .idle | .press | .waitHold | .releaseHold | .releaseStep | .click | .release | .waitClicks | .clicks
  | .waitTimeout | .timeout => 0

/-- `stepDuration(t)` (R181). -/
def stepDuration (t : Word) (s : State) : Nat :=
  match s.state with
  | .step | .waitNextStep => repeatTime s + phaseTime t s
  | .idle | .press | .waitHold | .hold | .waitStep | .releaseHold | .releaseStep | .click | .release | .waitClicks
  | .clicks | .waitTimeout | .timeout => 0

end Sys2Proof.Machine
end

