-- ==== Sys2Proof/Machine/Predicates.lean ====
section
/-! DEFINITION. The meanings of the duration predicates PRESS_FOR, HOLD_FOR, STEP_FOR (R185 to R187). -/

namespace Sys2Proof.Machine

/-- The duration comparator of R214: in the subset, and the exact duration is at least `ms`. -/
def lasted (inSubset : Bool) (duration : Nat) (ms : Word) : Bool :=
  inSubset && decide (ms.toNat ≤ duration)

/-- PRESS_FOR: in `PRESSING`, and the exact `pressDuration` at `time` is at least `ms` (R185). -/
def execPressFor (time ms : Word) (s : State) : Host.Outcome State Fault Refusal :=
  .next (s.respond (zextBool (lasted s.state.pressing (pressDuration time s) ms)))

/-- HOLD_FOR: in `HOLDING`, and the exact `holdDuration` at `time` is at least `ms` (R186). -/
def execHoldFor (time ms : Word) (s : State) : Host.Outcome State Fault Refusal :=
  .next (s.respond (zextBool (lasted s.state.holding (holdDuration time s) ms)))

/-- STEP_FOR: in `STEPPING`, and the exact `stepDuration` at `time` is at least `ms` (R187). -/
def execStepFor (time ms : Word) (s : State) : Host.Outcome State Fault Refusal :=
  .next (s.respond (zextBool (lasted s.state.stepping (stepDuration time s) ms)))

end Sys2Proof.Machine
end

