-- ==== Sys2Proof/Machine/Reads.lean ====
section
/-! DEFINITION. The meanings of the read commands GET_* (R175 to R184). -/

namespace Sys2Proof.Machine

/-- GET_STATE: the code of the gesture state (R177). -/
def execGetState (s : State) : Host.Outcome State Fault Refusal :=
  .next (s.respond (s.state.code.setWidth 32))

/-- GET_CLICKS: `clickCount` (R175). -/
def execGetClicks (s : State) : Host.Outcome State Fault Refusal :=
  .next (s.respond (s.clickCount.setWidth 32))

/-- GET_STEPS: `stepCount` (R176). -/
def execGetSteps (s : State) : Host.Outcome State Fault Refusal :=
  .next (s.respond (s.stepCount.setWidth 32))

/-- GET_LEVEL: `stableLevel` (R178). -/
def execGetLevel (s : State) : Host.Outcome State Fault Refusal :=
  .next (s.respond (zextBool s.stableLevel))

/-- GET_PRESS_TIME: `pressDuration` at `time`, saturated to 32 bits (R182). -/
def execGetPressTime (time : Word) (s : State) : Host.Outcome State Fault Refusal :=
  .next (s.respond (saturate32 (pressDuration time s)))

/-- GET_HOLD_TIME: `holdDuration` at `time`, saturated to 32 bits (R183). -/
def execGetHoldTime (time : Word) (s : State) : Host.Outcome State Fault Refusal :=
  .next (s.respond (saturate32 (holdDuration time s)))

/-- GET_STEP_TIME: `stepDuration` at `time`, saturated to 32 bits (R184). -/
def execGetStepTime (time : Word) (s : State) : Host.Outcome State Fault Refusal :=
  .next (s.respond (saturate32 (stepDuration time s)))

end Sys2Proof.Machine
end

