-- ==== Sys2Proof/Machine/Dispatch.lean ====
section
/-! DEFINITION. One arm per command: the meaning it runs. -/

namespace Sys2Proof.Machine

def exec (i : Instr) (s : State) : Host.Outcome State Fault Refusal :=
  match i with
  | .nop => Sys2Proof.Machine.execNop s
  | .tick l time => Sys2Proof.Machine.execTick l time s
  | .debounce l time => Sys2Proof.Machine.execDebounce l time s
  | .poll l time => Sys2Proof.Machine.execPoll l time s
  | .reset => Sys2Proof.Machine.execReset s
  | .getState => Sys2Proof.Machine.execGetState s
  | .getClicks => Sys2Proof.Machine.execGetClicks s
  | .getSteps => Sys2Proof.Machine.execGetSteps s
  | .getLevel => Sys2Proof.Machine.execGetLevel s
  | .getPressTime time => Sys2Proof.Machine.execGetPressTime time s
  | .getHoldTime time => Sys2Proof.Machine.execGetHoldTime time s
  | .getStepTime time => Sys2Proof.Machine.execGetStepTime time s
  | .evPress nv n => Sys2Proof.Machine.execEvPress nv n s
  | .evClick nv n => Sys2Proof.Machine.execEvClick nv n s
  | .evHold nv n => Sys2Proof.Machine.execEvHold nv n s
  | .evReleaseHold nv n => Sys2Proof.Machine.execEvReleaseHold nv n s
  | .evStep nv n => Sys2Proof.Machine.execEvStep nv n s
  | .evReleaseStep nv n => Sys2Proof.Machine.execEvReleaseStep nv n s
  | .evRelease nv n => Sys2Proof.Machine.execEvRelease nv n s
  | .evHasClicks nv n => Sys2Proof.Machine.execEvHasClicks nv n s
  | .evTimeout nv n => Sys2Proof.Machine.execEvTimeout nv n s
  | .isEvent => Sys2Proof.Machine.execIsEvent s
  | .isPressing => Sys2Proof.Machine.execIsPressing s
  | .pressFor time ms => Sys2Proof.Machine.execPressFor time ms s
  | .holdFor time ms => Sys2Proof.Machine.execHoldFor time ms s
  | .stepFor time ms => Sys2Proof.Machine.execStepFor time ms s

end Sys2Proof.Machine
end

