-- ==== Sys2Proof/Machine/Port.lean ====
section
/-! DEFINITION. What the block does with one input: it runs a well-formed command, turns a malformed one away, and
takes power-on reset (R78, R201, R230). -/

namespace Sys2Proof.Machine

/-- A command at the port: decoded before any state is read, then run whole, or turned away with its error status
(R54, R78, R201, R250). A command error is a next state, not a stop (log 6). -/
def runCommand (c : Command) (s : State) : Host.Outcome State Fault Refusal :=
  match decode c with
  | .error e => .next (s.raiseCommandError e)
  | .ok i => exec i s

/-- One input, already taken from `input`. -/
def runInput (x : Input) (s : State) : Host.Outcome State Fault Refusal :=
  match x with
  | .command c => runCommand c s
  | .resetInput => .next s.powerOnReset

/-- The block acts on the oldest input (R57); where nothing has arrived it takes no step of its own and waits (R216,
R231; log 2). -/
def serve (s : State) : Host.Outcome State Fault Refusal :=
  match s.takeInput with
  | none => .next s
  | some (x, s') => runInput x s'

end Sys2Proof.Machine
end

