-- ==== Sys2Proof/Machine/Step.lean ====
section
/-! DEFINITION. The step of the machine, and where a command stands that the next step takes. -/

namespace Sys2Proof.Machine

/-- One step: one input acted on whole (R54, R250). -/
def step (s : State) : Host.Outcome State Fault Refusal := serve s

/-- The state with an opcode-table word's command placed first at the port, so that the next step takes it: it stands for
the host issuing that command (log 3). -/
def State.withFetchWord (s : State) (nbits w : Nat) : State :=
  s.placeCommand (Command.ofTableBits nbits w)

end Sys2Proof.Machine
end

