-- ==== Sys2Proof/Machine/Assembler.lean ====
section
/-! DEFINITION. The assembler syntax of R82 and the pseudo-instructions of R83. The step does not use it: the block sees
words. DESIGN CHOICE (log 10) on the points of a line's form that R82 leaves open. -/

namespace Sys2Proof

/-- One operand of a line: a number, or a qualifier `#n` (R82). -/
inductive AsmOperand where
  | number (n : Nat)
  | qualifier (n : Nat)
deriving DecidableEq, Repr

/-- The operand forms of R82, each with the command it builds. -/
inductive AsmForm where
  /-- No operand. -/
  | plain (i : Instr)
  /-- `l, t`. -/
  | levelTime (f : Level → Word → Instr)
  /-- `t`. -/
  | time (f : Word → Instr)
  /-- Nothing, or `#n`. -/
  | event (f : Bool → Byte → Instr)
  /-- `t, ms`. -/
  | timeMs (f : Word → Word → Instr)

/-- The level `l` of a line, 0 or 1 (R82). -/
def levelOperand : Nat → Option Level
  | 0 => some false
  | 1 => some true
  | _ => none

/-- A 32-bit operand of a line; a number that does not fit is turned away (log 10). -/
def wordOperand (n : Nat) : Option Word :=
  if n < 2 ^ 32 then some (BitVec.ofNat 32 n) else none

/-- The count of `#n`, 0 to 255 (R82). -/
def countOperand (n : Nat) : Option Byte :=
  if n < 256 then some (BitVec.ofNat 8 n) else none

/-- The command a form and a list of operands stand for (R82). -/
def AsmForm.build : AsmForm → List AsmOperand → Option Instr
  | .plain i, [] => some i
  | .levelTime f, [.number l, .number t] =>
    match levelOperand l, wordOperand t with
    | some l, some t => some (f l t)
    | _, _ => none
  | .time f, [.number t] => (wordOperand t).map f
  | .event f, [] => some (f false 0#8)
  | .event f, [.qualifier n] => (countOperand n).map (f true)
  | .timeMs f, [.number t, .number ms] =>
    match wordOperand t, wordOperand ms with
    | some t, some ms => some (f t ms)
    | _, _ => none
  | _, _ => none

/-- Every mnemonic of R75 with its form (R82), and the two pseudo-instructions TICKP and TICKR (R83). -/
def asmForms : List (String × AsmForm) :=
  [
   ("NOP", .plain .nop),
   ("TICK", .levelTime Instr.tick),
   ("DEBOUNCE", .levelTime Instr.debounce),
   ("POLL", .levelTime Instr.poll),
   ("RESET", .plain .reset),
   ("GET_STATE", .plain .getState),
   ("GET_CLICKS", .plain .getClicks),
   ("GET_STEPS", .plain .getSteps),
   ("GET_LEVEL", .plain .getLevel),
   ("GET_PRESS_TIME", .time Instr.getPressTime),
   ("GET_HOLD_TIME", .time Instr.getHoldTime),
   ("GET_STEP_TIME", .time Instr.getStepTime),
   ("EV_PRESS", .event Instr.evPress),
   ("EV_CLICK", .event Instr.evClick),
   ("EV_HOLD", .event Instr.evHold),
   ("EV_RELEASE_HOLD", .event Instr.evReleaseHold),
   ("EV_STEP", .event Instr.evStep),
   ("EV_RELEASE_STEP", .event Instr.evReleaseStep),
   ("EV_RELEASE", .event Instr.evRelease),
   ("EV_HAS_CLICKS", .event Instr.evHasClicks),
   ("EV_TIMEOUT", .event Instr.evTimeout),
   ("IS_EVENT", .plain .isEvent),
   ("IS_PRESSING", .plain .isPressing),
   ("PRESS_FOR", .timeMs Instr.pressFor),
   ("HOLD_FOR", .timeMs Instr.holdFor),
   ("STEP_FOR", .timeMs Instr.stepFor),
   ("TICKP", .time (Instr.tick true)),
   ("TICKR", .time (Instr.tick false))]

/-- The command a mnemonic and its operands stand for. -/
def assemble (mnemonic : String) (ops : List AsmOperand) : Option Instr :=
  match asmForms.lookup mnemonic with
  | some form => form.build ops
  | none => none

/-! ## Reading a line -/

def isBlank (c : Char) : Bool := c == ' ' || c == '\t'

/-- A line or an operand without the blanks around it (log 10). -/
def trimBlanks (cs : List Char) : List Char :=
  ((cs.dropWhile isBlank).reverse.dropWhile isBlank).reverse

/-- The operands of a line, separated by commas (R82). -/
def splitCommas : List Char → List (List Char)
  | [] => [[]]
  | c :: cs =>
    match splitCommas cs with
    | [] => [[c]]
    | p :: ps => if c == ',' then [] :: p :: ps else (c :: p) :: ps

/-- The value of a digit in base 10 or 16; letters of either case (log 10). -/
def digitValue (base : Nat) (c : Char) : Option Nat :=
  let v :=
    if '0'.toNat ≤ c.toNat ∧ c.toNat ≤ '9'.toNat then some (c.toNat - '0'.toNat)
    else if 'A'.toNat ≤ c.toNat ∧ c.toNat ≤ 'F'.toNat then some (c.toNat - 'A'.toNat + 10)
    else if 'a'.toNat ≤ c.toNat ∧ c.toNat ≤ 'f'.toNat then some (c.toNat - 'a'.toNat + 10)
    else none
  v.filter (· < base)

/-- The digits read from the left, after the value `acc`. -/
def digitsFrom (base acc : Nat) : List Char → Option Nat
  | [] => some acc
  | c :: cs =>
    match digitValue base c with
    | some d => digitsFrom base (acc * base + d) cs
    | none => none

/-- A number, decimal or `0x` hexadecimal (R82). -/
def readNumber : List Char → Option Nat
  | [] => none
  | ['0', 'x'] => none
  | '0' :: 'x' :: ds => digitsFrom 16 0 ds
  | ds => digitsFrom 10 0 ds

/-- One operand of a line. -/
def readOperand : List Char → Option AsmOperand
  | '#' :: ds => (readNumber ds).map .qualifier
  | ds => (readNumber ds).map .number

/-- All the operands of a line; none where one of them cannot be read. -/
def readOperands : List (List Char) → Option (List AsmOperand)
  | [] => some []
  | p :: ps =>
    match readOperand (trimBlanks p), readOperands ps with
    | some o, some os => some (o :: os)
    | _, _ => none

/-- One line of R82: the mnemonic, then the operands separated by commas. -/
def assembleLine (line : String) : Option Instr :=
  let cs := trimBlanks line.toList
  let name := cs.takeWhile (fun c => !isBlank c)
  let rest := trimBlanks (cs.drop name.length)
  match (if rest = [] then some [] else readOperands (splitCommas rest)) with
  | some ops => assemble (String.ofList name) ops
  | none => none

/-! ## Writing a command -/

/-- The mnemonic of a command (R75). -/
def Instr.mnemonic : Instr → String
  | .nop => "NOP"
  | .tick _ _ => "TICK"
  | .debounce _ _ => "DEBOUNCE"
  | .poll _ _ => "POLL"
  | .reset => "RESET"
  | .getState => "GET_STATE"
  | .getClicks => "GET_CLICKS"
  | .getSteps => "GET_STEPS"
  | .getLevel => "GET_LEVEL"
  | .getPressTime _ => "GET_PRESS_TIME"
  | .getHoldTime _ => "GET_HOLD_TIME"
  | .getStepTime _ => "GET_STEP_TIME"
  | .evPress _ _ => "EV_PRESS"
  | .evClick _ _ => "EV_CLICK"
  | .evHold _ _ => "EV_HOLD"
  | .evReleaseHold _ _ => "EV_RELEASE_HOLD"
  | .evStep _ _ => "EV_STEP"
  | .evReleaseStep _ _ => "EV_RELEASE_STEP"
  | .evRelease _ _ => "EV_RELEASE"
  | .evHasClicks _ _ => "EV_HAS_CLICKS"
  | .evTimeout _ _ => "EV_TIMEOUT"
  | .isEvent => "IS_EVENT"
  | .isPressing => "IS_PRESSING"
  | .pressFor _ _ => "PRESS_FOR"
  | .holdFor _ _ => "HOLD_FOR"
  | .stepFor _ _ => "STEP_FOR"

/-- The operands a command is written with (R82). -/
def Instr.asmOperands : Instr → List AsmOperand
  | .tick l t | .debounce l t | .poll l t => [.number l.toNat, .number t.toNat]
  | .getPressTime t | .getHoldTime t | .getStepTime t => [.number t.toNat]
  | .evPress nv n | .evClick nv n | .evHold nv n | .evReleaseHold nv n | .evStep nv n | .evReleaseStep nv n
  | .evRelease nv n | .evHasClicks nv n | .evTimeout nv n => if nv then [.qualifier n.toNat] else []
  | .pressFor t ms | .holdFor t ms | .stepFor t ms => [.number t.toNat, .number ms.toNat]
  | .nop | .reset | .getState | .getClicks | .getSteps | .getLevel | .isEvent | .isPressing => []

/-- The hexadecimal digit of four bits. -/
def hexDigit (v : BitVec 4) : Char :=
  "0123456789ABCDEF".toList.getD v.toNat '0'

/-- A word in hexadecimal, eight digits after `0x` (R82). -/
def hexWord (w : Word) : String :=
  "0x" ++ String.ofList
    [hexDigit (w.extractLsb' 28 4), hexDigit (w.extractLsb' 24 4), hexDigit (w.extractLsb' 20 4),
     hexDigit (w.extractLsb' 16 4), hexDigit (w.extractLsb' 12 4), hexDigit (w.extractLsb' 8 4),
     hexDigit (w.extractLsb' 4 4), hexDigit (w.extractLsb' 0 4)]

/-- A command in hexadecimal, `W0 W1 W2` (R82). -/
def Command.hex (c : Command) : String :=
  hexWord c.w0 ++ " " ++ hexWord c.w1 ++ " " ++ hexWord c.w2

end Sys2Proof
end

