-- ==== Sys2Proof/Safety.lean ====
section
/-! DEFINITION. The terms the statements use: what a good state is, which registers two states share, runs of commands,
the source's transition table as data, and shifted clocks. Nothing here is used by the step. -/

namespace Sys2Proof.Machine

/-! ## Good states -/

/-- The debounce invariant of R37: a settle timer runs exactly when the candidate differs from the stable level. -/
def DebounceInv (s : State) : Prop :=
  s.dbPending = true ↔ s.dbCandidate ≠ s.stableLevel

/-- The counter invariants of R39, state by state. -/
def CounterInv (s : State) : Prop :=
  (s.state = .idle ∨ s.state = .waitTimeout ∨ s.state = .timeout → s.clickCount = 0#8) ∧
  (s.state = .click ∨ s.state = .waitClicks ∨ s.state = .clicks → s.clickCount ≠ 0#8) ∧
  (s.state ≠ .step → s.state ≠ .waitNextStep → s.state ≠ .releaseStep → s.state ≠ .release → s.stepCount = 0#8)

/-- Both invariants, which power-on reset establishes and every step keeps. -/
def Good (s : State) : Prop := DebounceInv s ∧ CounterInv s

/-! ## What two states share -/

/-- The four registers of the gesture machine agree. -/
def SameGesture (s t : State) : Prop :=
  s.state = t.state ∧ s.clickCount = t.clickCount ∧ s.stepCount = t.stepCount ∧ s.stateEnteredAt = t.stateEnteredAt

/-- The four registers of the debounce filter agree. -/
def SameFilter (s t : State) : Prop :=
  s.stableLevel = t.stableLevel ∧ s.dbCandidate = t.dbCandidate ∧ s.dbPending = t.dbPending ∧
  s.dbTimestamp = t.dbTimestamp

/-- All eight registers of the block agree. -/
def SameRegisters (s t : State) : Prop := SameGesture s t ∧ SameFilter s t

/-- No command can tell the two states apart (R27, R35, R38): they agree but for `dbCandidate`, for `dbTimestamp` while
no settle timer runs, and for `stateEnteredAt` in Idle and Press. -/
def Indistinguishable (s t : State) : Prop :=
  s.state = t.state ∧ s.clickCount = t.clickCount ∧ s.stepCount = t.stepCount ∧ s.stableLevel = t.stableLevel ∧
  s.dbPending = t.dbPending ∧ (s.dbPending = true → s.dbTimestamp = t.dbTimestamp) ∧
  (s.state ≠ .idle → s.state ≠ .press → s.stateEnteredAt = t.stateEnteredAt) ∧
  s.cfg = t.cfg ∧ s.input = t.input ∧ s.response = t.response

/-! ## Responses and runs -/

/-- A response with status OK. -/
def okResponse (result : Word) : Option Response := some ⟨0#2, result⟩

/-- A Boolean as the number a result holds. -/
def bit (p : Prop) [Decidable p] : Word := if p then 1#32 else 0#32

/-- The state after a list of commands run in order; none where one of them does not answer a next state. -/
def runAll : List Instr → State → Option State
  | [], s => some s
  | i :: is, s =>
    match exec i s with
    | .next t => runAll is t
    | .fault _ => none
    | .refused _ => none

/-- What one input does to the block: a command that decodes has its own effect, one that is turned away gives its error
response, and the reset input gives power-on reset (R78, R201, R230). -/
def actOn (x : Input) (s : State) : Option State :=
  match x with
  | .resetInput => some s.powerOnReset
  | .command c =>
    match decode c with
    | .error e => some (s.raiseCommandError e)
    | .ok i => runAll [i] s

/-- The state after a list of inputs acted on in order. -/
def actOnAll : List Input → State → Option State
  | [], s => some s
  | x :: xs, s =>
    match actOn x s with
    | some t => actOnAll xs t
    | none => none

/-- Whether a command is a query: it reads and writes nothing (R160). -/
def isQuery : Instr → Bool
  | .getState | .getClicks | .getSteps | .getLevel | .getPressTime _ | .getHoldTime _ | .getStepTime _
  | .evPress _ _ | .evClick _ _ | .evHold _ _ | .evReleaseHold _ _ | .evStep _ _ | .evReleaseStep _ _
  | .evRelease _ _ | .evHasClicks _ _ | .evTimeout _ _
  | .isEvent | .isPressing | .pressFor _ _ | .holdFor _ _ | .stepFor _ _ => true
  | .nop | .tick _ _ | .debounce _ _ | .poll _ _ | .reset => false

/-! ## The source's transition table as data (§4.2, quoted row by row in R123 to R141) -/

/-- The condition column of a row. -/
inductive RowCondition where
  | unconditional
  | released
  | pressed
  | elapsedAtLeast (threshold : Cfg → Word)
  | someClicks
  | noClicks

/-- What a row's side effects do to a counter. -/
inductive CounterEffect where
  | keep
  | count
  | clear
deriving DecidableEq, Repr

/-- One row of the table. -/
structure TableRow where
  source : Gesture
  condition : RowCondition
  target : Gesture
  clicks : CounterEffect
  steps : CounterEffect
  resetsTimer : Bool

/-- The table, row by row in the source's order; the row of ReleaseHold and ReleaseStep and the row of Release stand as
two rows each. -/
def sourceTable : List TableRow :=
  [⟨.idle, .pressed, .press, .keep, .keep, false⟩,
   ⟨.press, .unconditional, .waitHold, .keep, .keep, true⟩,
   ⟨.waitHold, .released, .click, .count, .keep, false⟩,
   ⟨.waitHold, .elapsedAtLeast Cfg.holdMs, .hold, .keep, .keep, true⟩,
   ⟨.hold, .unconditional, .waitStep, .keep, .keep, false⟩,
   ⟨.waitStep, .released, .releaseHold, .keep, .keep, false⟩,
   ⟨.waitStep, .elapsedAtLeast Cfg.stepMs, .step, .keep, .keep, true⟩,
   ⟨.step, .unconditional, .waitNextStep, .keep, .keep, false⟩,
   ⟨.waitNextStep, .released, .releaseStep, .keep, .keep, false⟩,
   ⟨.waitNextStep, .elapsedAtLeast Cfg.stepPeriodMs, .step, .keep, .count, true⟩,
   ⟨.releaseHold, .unconditional, .release, .clear, .keep, false⟩,
   ⟨.releaseStep, .unconditional, .release, .clear, .keep, false⟩,
   ⟨.click, .unconditional, .release, .keep, .keep, false⟩,
   ⟨.release, .someClicks, .waitClicks, .keep, .clear, true⟩,
   ⟨.release, .noClicks, .waitTimeout, .keep, .clear, true⟩,
   ⟨.waitClicks, .pressed, .press, .keep, .keep, false⟩,
   ⟨.waitClicks, .elapsedAtLeast Cfg.clickWindowMs, .clicks, .keep, .keep, true⟩,
   ⟨.clicks, .unconditional, .waitTimeout, .clear, .keep, false⟩,
   ⟨.waitTimeout, .pressed, .press, .keep, .keep, false⟩,
   ⟨.waitTimeout, .elapsedAtLeast Cfg.timeoutMs, .timeout, .keep, .keep, false⟩,
   ⟨.timeout, .unconditional, .idle, .keep, .keep, false⟩]

/-- Whether a condition holds at a call. -/
def RowCondition.holds (level : Level) (now : Word) (s : State) : RowCondition → Bool
  | .unconditional => true
  | .released => level == false
  | .pressed => level == true
  | .elapsedAtLeast threshold => decide ((threshold s.cfg).toNat ≤ (now - s.stateEnteredAt).toNat)
  | .someClicks => decide (0 < s.clickCount.toNat)
  | .noClicks => decide (s.clickCount.toNat = 0)

/-- A counter after an effect: counting stops at 255 (R11). -/
def CounterEffect.apply (c : Byte) : CounterEffect → Byte
  | .keep => c
  | .count => BitVec.ofNat 8 (min (c.toNat + 1) 255)
  | .clear => 0#8

/-- Whether a row fires at a call. -/
def TableRow.fires (level : Level) (now : Word) (s : State) (r : TableRow) : Bool :=
  decide (s.state = r.source) && r.condition.holds level now s

/-- The registers a row writes. -/
def TableRow.apply (now : Word) (s : State) (r : TableRow) : State :=
  { s with
    state := r.target
    clickCount := r.clicks.apply s.clickCount
    stepCount := r.steps.apply s.stepCount
    stateEnteredAt := if r.resetsTimer then now else s.stateEnteredAt }

/-- The rows that fire at a call, in the table's order. -/
def firingRows (level : Level) (now : Word) (s : State) : List TableRow :=
  sourceTable.filter (TableRow.fires level now s)

/-- The moves of the table: every pair of a state and the state a row leads to. -/
def tableEdges : List (Gesture × Gesture) :=
  sourceTable.map (fun r => (r.source, r.target))

/-- The moves whose row resets the state-entry timer (R146). -/
def timerEdges : List (Gesture × Gesture) :=
  [(.press, .waitHold), (.waitHold, .hold), (.waitStep, .step), (.waitNextStep, .step),
   (.release, .waitClicks), (.release, .waitTimeout), (.waitClicks, .clicks)]

/-! ## A shifted clock (R17, R243) -/

/-- The command with its `TIME` operand, where it has one, `k` later on the 32-bit clock. -/
def shiftTime (k : Word) : Instr → Instr
  | .tick l t => .tick l (t + k)
  | .debounce l t => .debounce l (t + k)
  | .poll l t => .poll l (t + k)
  | .getPressTime t => .getPressTime (t + k)
  | .getHoldTime t => .getHoldTime (t + k)
  | .getStepTime t => .getStepTime (t + k)
  | .pressFor t ms => .pressFor (t + k) ms
  | .holdFor t ms => .holdFor (t + k) ms
  | .stepFor t ms => .stepFor (t + k) ms
  | .nop => .nop
  | .reset => .reset
  | .getState => .getState
  | .getClicks => .getClicks
  | .getSteps => .getSteps
  | .getLevel => .getLevel
  | .evPress nv n => .evPress nv n
  | .evClick nv n => .evClick nv n
  | .evHold nv n => .evHold nv n
  | .evReleaseHold nv n => .evReleaseHold nv n
  | .evStep nv n => .evStep nv n
  | .evReleaseStep nv n => .evReleaseStep nv n
  | .evRelease nv n => .evRelease nv n
  | .evHasClicks nv n => .evHasClicks nv n
  | .evTimeout nv n => .evTimeout nv n
  | .isEvent => .isEvent
  | .isPressing => .isPressing

/-- The state with both timestamps `k` later on the 32-bit clock. -/
def shiftStamps (k : Word) (s : State) : State :=
  { s with dbTimestamp := s.dbTimestamp + k, stateEnteredAt := s.stateEnteredAt + k }

end Sys2Proof.Machine
end

