-- ==== Sys2Proof/Certificates/Slice0/Obligations.lean ====
section
/-! DEFINITION. The statements for the provers. Each says which rule of spec/ it formalises; where it rests on an inference
the spec marks as its own ("derived"), or on the model's choice, its docstring says so. -/

open Sys2Proof Sys2Proof.Machine

/-! ## Reset -/

/-- R230, R21 to R28: what power-on reset leaves, whatever the block held and whatever thresholds it was built with, when
the reset input is the oldest input; and the same eight values in the machine's state after reset. -/
def Obligations.PowerOnResetRegisters : Prop :=
  (∀ (s : State) (rest : List Input), s.input = .resetInput :: rest →
    ∃ t, step s = .next t ∧ t.state = .idle ∧ t.clickCount = 0#8 ∧ t.stepCount = 0#8 ∧ t.stableLevel = false ∧
      t.dbCandidate = false ∧ t.dbPending = false ∧ t.dbTimestamp = 0#32 ∧ t.stateEnteredAt = 0#32) ∧
  State.reset.state = .idle ∧ State.reset.clickCount = 0#8 ∧ State.reset.stepCount = 0#8 ∧
  State.reset.stableLevel = false ∧ State.reset.dbCandidate = false ∧ State.reset.dbPending = false ∧
  State.reset.dbTimestamp = 0#32 ∧ State.reset.stateEnteredAt = 0#32

/-- R231, which the spec marks as derived: after power-on reset every event query without a qualifier, IS_EVENT, IS_PRESSING
and GET_LEVEL answer 0. -/
def Obligations.FlagsReadZeroAfterPowerOn : Prop :=
  ∀ i ∈ [Instr.evPress false 0#8, .evClick false 0#8, .evHold false 0#8, .evReleaseHold false 0#8, .evStep false 0#8,
      .evReleaseStep false 0#8, .evRelease false 0#8, .evHasClicks false 0#8, .evTimeout false 0#8, .isEvent, .isPressing,
      .getLevel],
    ∀ (s : State) (rest : List Input), s.input = .resetInput :: rest →
      ∃ t u, step s = .next t ∧ exec i t = .next u ∧ u.response = okResponse 0#32

/-! ## The port -/

/-- R54, R57, R78: a well-formed command at the head of the port is run by the step, and only it is taken. -/
def Obligations.StepRunsDecodedCommand : Prop :=
  ∀ (s : State) (c : Command) (rest : List Input) (i : Instr),
    s.input = .command c :: rest → decode c = .ok i →
      step s = exec i { s with input := rest }

/-- R201, R202, R204: a command turned away gives its status code with result 0 and writes no register, and no command that
decodes gives any status but 0. -/
def Obligations.CommandErrorWritesNothing : Prop :=
  (∀ (s : State) (c : Command) (rest : List Input) (e : CommandError),
    s.input = .command c :: rest → decode c = .error e →
      step s = .next { s with
        input := rest,
        response := some ⟨match e with | .illegalOpcode => 1#2 | .reservedField => 2#2 | .qualifierNotAllowed => 3#2,
          0#32⟩ }) ∧
  (∀ (i : Instr) (s : State), ∃ t r, exec i s = .next t ∧ t.response = okResponse r)

/-- R204: a command that is turned away leaves every register as it was, and what comes after it executes as if it had not
been issued. -/
def Obligations.ErrorLeavesNoTrace : Prop :=
  ∀ (s : State) (bad : Command) (e : CommandError) (next : Input) (rest : List Input),
    decode bad = .error e → s.input = .command bad :: next :: rest →
      (∃ t, step s = .next t ∧ SameRegisters t s ∧ t.cfg = s.cfg) ∧
      Host.Core.run Sys2Proof.core 2 s = step { s with input := next :: rest }

/-- R216, R231: with nothing delivered the block takes no step of its own. That this waiting is a step that changes nothing
is the model's choice (log 2). -/
def Obligations.BlockWaitsForCommand : Prop :=
  ∀ s : State, s.input = [] → ∀ k, Host.Core.run Sys2Proof.core k s = .next s

/-- R250, R217: every command completes in one step: no state, command or input stops the machine, and each step takes at most
the oldest input (R57). That the port is a queue in the state is the model's choice (log 2), and so is that the reset input
takes only itself and keeps what waits behind it (log 5). -/
def Obligations.EveryStepCompletes : Prop :=
  ∀ s : State, ∃ t, step s = .next t ∧ t.input = s.input.tail

/-- R57, R250: as many steps as there are inputs act on exactly those inputs, one at a time in the order the port delivered
them, each seeing what the ones before it left; and where they are commands, those steps are the commands run in order.
That the port is a queue in the state is the model's choice (log 2), and so is that a reset input among them is acted on
in its turn and keeps what waits behind it (log 5). -/
def Obligations.InputsTakenInPortOrder : Prop :=
  (∀ (xs rest : List Input) (s : State), s.input = xs ++ rest →
    ∃ t, actOnAll xs { s with input := rest } = some t ∧ t.input = rest ∧
      Host.Core.run Sys2Proof.core xs.length s = .next t) ∧
  (∀ (is : List Instr) (rest : List Input) (s : State), (∀ i ∈ is, i.wellFormed = true) →
    s.input = is.map (fun i => Input.command (encode i)) ++ rest →
      ∃ t, runAll is { s with input := rest } = some t ∧ t.input = rest ∧
        Host.Core.run Sys2Proof.core is.length s = .next t)

/-- R9, R29: no step writes a threshold, power-on reset included. -/
def Obligations.ThresholdsNeverWritten : Prop :=
  ∀ s t : State, step s = .next t → t.cfg = s.cfg

/-! ## Encoding -/

/-- R71 to R78, R84: decoding the encoding of a well-formed command gives it back, every operand at every value. -/
def Obligations.DecodeOfEncode : Prop :=
  ∀ i : Instr, i.wellFormed = true → decode (encode i) = .ok i

/-- R70 to R78: a command word triple decodes to a command exactly when that command is well-formed and the triple is its
encoding: every bit of the 96 is used or checked, and no two commands share an encoding. -/
def Obligations.DecodeOkExactlyEncodings : Prop :=
  ∀ (c : Command) (i : Instr), decode c = .ok i ↔ i.wellFormed = true ∧ encode i = c

/-- R76, R78, R202: status 1 exactly for the six reserved opcodes, whatever the other 91 bits hold. -/
def Obligations.IllegalOpcodeExactly : Prop :=
  ∀ c : Command, decode c = .error .illegalOpcode ↔
    c.w0.extractLsb' 0 5 ∈ [0x05#5, 0x06#5, 0x07#5, 0x0F#5, 0x1B#5, 0x1F#5]

/-- R77, R78, R203: status 3 exactly for an assigned opcode outside 0x10 to 0x18 with `NV = 1`, whatever else is wrong. -/
def Obligations.QualifierNotAllowedExactly : Prop :=
  ∀ c : Command, decode c = .error .qualifierNotAllowed ↔
    c.w0.extractLsb' 0 5 ∉ [0x05#5, 0x06#5, 0x07#5, 0x0F#5, 0x1B#5, 0x1F#5] ∧ c.w0.getLsbD 9 = true ∧
      ¬ (0x10 ≤ (c.w0.extractLsb' 0 5).toNat ∧ (c.w0.extractLsb' 0 5).toNat ≤ 0x18)

/-- R74, R77, R78, R203: status 2 exactly when neither status 1 nor status 3 applies and a reserved bit is 1 or a field the
command does not use is not 0. -/
def Obligations.ReservedFieldExactly : Prop :=
  ∀ c : Command, decode c = .error .reservedField ↔
    (c.w0.extractLsb' 0 5 ∉ [0x05#5, 0x06#5, 0x07#5, 0x0F#5, 0x1B#5, 0x1F#5] ∧
     (c.w0.getLsbD 9 = true →
       0x10 ≤ (c.w0.extractLsb' 0 5).toNat ∧ (c.w0.extractLsb' 0 5).toNat ≤ 0x18)) ∧
    (c.w0.extractLsb' 5 3 ≠ 0#3 ∨ c.w0.extractLsb' 10 6 ≠ 0#6 ∨ c.w0.extractLsb' 24 8 ≠ 0#8 ∨
     (c.w0.getLsbD 8 = true ∧ c.w0.extractLsb' 0 5 ∉ [0x01#5, 0x02#5, 0x03#5]) ∨
     (c.w0.getLsbD 9 = false ∧ c.w0.extractLsb' 16 8 ≠ 0#8) ∨
     (c.w1 ≠ 0#32 ∧
       c.w0.extractLsb' 0 5 ∉ [0x01#5, 0x02#5, 0x03#5, 0x0C#5, 0x0D#5, 0x0E#5, 0x1C#5, 0x1D#5, 0x1E#5]) ∨
     (c.w2 ≠ 0#32 ∧ c.w0.extractLsb' 0 5 ∉ [0x1C#5, 0x1D#5, 0x1E#5]))

/-- R74, R75, R84: the three words of every command, every operand at every value. -/
def Obligations.EncodingWords : Prop :=
  (∀ p ∈ [(Instr.nop, 0x00000000#32), (.reset, 0x00000004#32), (.getState, 0x00000008#32), (.getClicks, 0x00000009#32),
      (.getSteps, 0x0000000A#32), (.getLevel, 0x0000000B#32), (.isEvent, 0x00000019#32), (.isPressing, 0x0000001A#32)],
    encode p.1 = ⟨p.2, 0#32, 0#32⟩) ∧
  (∀ p ∈ [(Instr.tick, 0x00000001#32), (Instr.debounce, 0x00000002#32), (Instr.poll, 0x00000003#32)], ∀ time : Word,
    encode (p.1 false time) = ⟨p.2, time, 0#32⟩ ∧ encode (p.1 true time) = ⟨p.2 ||| 0x00000100#32, time, 0#32⟩) ∧
  (∀ p ∈ [(Instr.getPressTime, 0x0000000C#32), (Instr.getHoldTime, 0x0000000D#32), (Instr.getStepTime, 0x0000000E#32)],
    ∀ time : Word, encode (p.1 time) = ⟨p.2, time, 0#32⟩) ∧
  (∀ p ∈ [(Instr.evPress, 0x00000010#32),
      (Instr.evClick, 0x00000011#32),
      (Instr.evHold, 0x00000012#32),
      (Instr.evReleaseHold, 0x00000013#32),
      (Instr.evStep, 0x00000014#32),
      (Instr.evReleaseStep, 0x00000015#32),
      (Instr.evRelease, 0x00000016#32),
      (Instr.evHasClicks, 0x00000017#32),
      (Instr.evTimeout, 0x00000018#32)], ∀ n : Byte,
    encode (p.1 false 0#8) = ⟨p.2, 0#32, 0#32⟩ ∧
    encode (p.1 true n) = ⟨p.2 ||| 0x00000200#32 ||| (n.setWidth 32 <<< 16), 0#32, 0#32⟩) ∧
  (∀ p ∈ [(Instr.pressFor, 0x0000001C#32), (Instr.holdFor, 0x0000001D#32), (Instr.stepFor, 0x0000001E#32)],
    ∀ time ms : Word, encode (p.1 time ms) = ⟨p.2, time, ms⟩)

/-- R84: words of the table, one of each family, and what they stand for (a sanity statement). -/
def Obligations.SampleWordsDecode : Prop :=
  decode ⟨0x00000000#32, 0#32, 0#32⟩ = .ok .nop ∧
  decode ⟨0x00000101#32, 0x000000A0#32, 0#32⟩ = .ok (.tick true 160#32) ∧
  decode ⟨0x00000002#32, 0x00000064#32, 0#32⟩ = .ok (.debounce false 100#32) ∧
  decode ⟨0x00000003#32, 0x00000168#32, 0#32⟩ = .ok (.poll false 360#32) ∧
  decode ⟨0x00000004#32, 0#32, 0#32⟩ = .ok .reset ∧
  decode ⟨0x0000000C#32, 0x00000564#32, 0#32⟩ = .ok (.getPressTime 1380#32) ∧
  decode ⟨0x00020217#32, 0#32, 0#32⟩ = .ok (.evHasClicks true 2#8) ∧
  decode ⟨0x0000001E#32, 0x00000A82#32, 0x00000460#32⟩ = .ok (.stepFor 2690#32 1120#32)

/-- R52, R53: a byte transport that brings the bytes of some commands, then fewer than twelve more, delivers exactly those
commands, after what is already waiting. Counting the groups from the first byte is the model's choice (log 7). -/
def Obligations.TransportDeliversWholeCommands : Prop :=
  ∀ (cs : List Command) (tail : List Byte) (s : State), tail.length < 12 →
    s.deliverBytes (cs.flatMap Command.bytes ++ tail) = { s with input := s.input ++ cs.map Input.command }

/-- R52: the response goes as the result word, bits 7:0 first, then a byte with the status in bits 1:0 and zeros above. -/
def Obligations.ResponseBytesLittleEndian : Prop :=
  ∀ r : Response, ∃ b0 b1 b2 b3 b4 : Byte, r.bytes = [b0, b1, b2, b3, b4] ∧
    r.result.toNat = b0.toNat + 256 * b1.toNat + 65536 * b2.toNat + 16777216 * b3.toNat ∧
    b4.toNat = r.status.toNat

/-- R82, R83: the operands a well-formed command is written with assemble back to it, and TICKP and TICKR are TICK with the
level 1 and 0. -/
def Obligations.AssemblerReadsWhatIsWritten : Prop :=
  (∀ i : Instr, i.wellFormed = true → assemble i.mnemonic i.asmOperands = some i) ∧
  (∀ n : Nat, assemble "TICKP" [.number n] = assemble "TICK" [.number 1, .number n] ∧
    assemble "TICKR" [.number n] = assemble "TICK" [.number 0, .number n])

/-! ## Arithmetic -/

/-- R17: the elapsed time is the true interval whenever that is below 2^32 ms, whether or not the 32-bit clock wrapped. -/
def Obligations.ElapsedIsTrueInterval : Prop :=
  ∀ start interval : Nat, interval < 2 ^ 32 →
    (elapsed (BitVec.ofNat 32 (start + interval)) (BitVec.ofNat 32 start)).toNat = interval

/-- R11, R18: incrementing a counter adds 1, and 255 stays 255. -/
def Obligations.CounterSaturates : Prop :=
  ∀ c : Byte, (satInc8 c).toNat = min (c.toNat + 1) 255

/-- R19, which the spec marks as derived: every duration is below 2^41. -/
def Obligations.DurationsBelowTwoToTheFortyOne : Prop :=
  ∀ (t : Word) (s : State), pressDuration t s < 2 ^ 41 ∧ holdDuration t s < 2 ^ 41 ∧ stepDuration t s < 2 ^ 41

/-! ## The debounce filter -/

/-- R100: one sample of the filter: the registers it writes, the value it returns and everything it leaves alone. -/
def Obligations.DebounceSample : Prop :=
  ∀ (raw : Level) (now : Word) (s : State),
    (raw = s.stableLevel →
      exec (.debounce raw now) s = .next { s with
        dbCandidate := raw, dbPending := false, response := okResponse (bit (raw = true)) }) ∧
    (raw ≠ s.stableLevel →
      ∀ since, since = (if s.dbPending = true then s.dbTimestamp else now) →
        (s.cfg.debounceMs.toNat ≤ (now - since).toNat →
          exec (.debounce raw now) s = .next { s with
            stableLevel := raw, dbCandidate := raw, dbPending := false, dbTimestamp := since,
            response := okResponse (bit (raw = true)) }) ∧
        ((now - since).toNat < s.cfg.debounceMs.toNat →
          exec (.debounce raw now) s = .next { s with
            dbCandidate := raw, dbPending := true, dbTimestamp := since,
            response := okResponse (bit (s.stableLevel = true)) }))

/-- R102, which the spec marks as derived: the filter's result and its four registers after a sample depend on its four
registers, the operands and `DEBOUNCE_MS` alone. -/
def Obligations.FilterDependsOnItsOwnState : Prop :=
  ∀ (raw : Level) (now : Word) (s1 s2 t1 t2 : State),
    SameFilter s1 s2 → s1.cfg.debounceMs = s2.cfg.debounceMs →
    exec (.debounce raw now) s1 = .next t1 → exec (.debounce raw now) s2 = .next t2 →
      SameFilter t1 t2 ∧ t1.response = t2.response

/-- R103, which the spec marks as derived: samples that all differ from the stable level, the first finding no timer running,
commit at the first one at least `DEBOUNCE_MS` after the first, and not before. -/
def Obligations.SettledLevelCommits : Prop :=
  ∀ (s : State) (first last : Word) (times : List Word),
    s.dbPending = false → (times ++ [last]).head? = some first →
    (∀ t ∈ times, (t - first).toNat < s.cfg.debounceMs.toNat) →
    s.cfg.debounceMs.toNat ≤ (last - first).toNat →
      ∃ u v, runAll (times.map (Instr.debounce (!s.stableLevel))) s = some u ∧ u.stableLevel = s.stableLevel ∧
        exec (.debounce (!s.stableLevel) last) u = .next v ∧ v.stableLevel = !s.stableLevel ∧ v.dbPending = false

/-- R104, which the spec marks as derived: a differing level seen only at samples spanning less than `DEBOUNCE_MS`, then the
stable level again, leaves the stable level as it was and no timer running. -/
def Obligations.GlitchNeverCommits : Prop :=
  ∀ (s : State) (first back : Word) (later : List Word),
    s.dbPending = false →
    (∀ t ∈ first :: later, (t - first).toNat < s.cfg.debounceMs.toNat) →
      ∃ u v, runAll ((first :: later).map (Instr.debounce (!s.stableLevel))) s = some u ∧
        u.stableLevel = s.stableLevel ∧
        exec (.debounce s.stableLevel back) u = .next v ∧ v.stableLevel = s.stableLevel ∧ v.dbPending = false ∧
        SameGesture v s

/-! ## The gesture machine -/

/-- R120, R122: POLL applies the first row of the source's table that fires, or none; its result is 1 exactly when one fires,
and in an event state one always does. -/
def Obligations.PollFollowsSourceTable : Prop :=
  ∀ (l : Level) (now : Word) (s : State),
    (firingRows l now s = [] →
      exec (.poll l now) s = .next { s with response := okResponse 0#32 }) ∧
    (∀ r more, firingRows l now s = r :: more →
      exec (.poll l now) s = .next { TableRow.apply now s r with response := okResponse 1#32 }) ∧
    (s.state ∈ [Gesture.press, .hold, .step, .releaseHold, .releaseStep, .click, .release, .clicks, .timeout] →
      firingRows l now s ≠ [])

/-- R124, R127, R130, R133, R134, R135, R138, R141: the unconditional rows, each with all it writes. -/
def Obligations.PollLeavesEventStates : Prop :=
  ∀ (l : Level) (now : Word) (s : State),
    (s.state = .press →
      exec (.poll l now) s =
        .next { s with state := .waitHold, stateEnteredAt := now, response := okResponse 1#32 }) ∧
    (s.state = .hold →
      exec (.poll l now) s = .next { s with state := .waitStep, response := okResponse 1#32 }) ∧
    (s.state = .step →
      exec (.poll l now) s = .next { s with state := .waitNextStep, response := okResponse 1#32 }) ∧
    (s.state = .releaseHold ∨ s.state = .releaseStep →
      exec (.poll l now) s = .next { s with state := .release, clickCount := 0#8, response := okResponse 1#32 }) ∧
    (s.state = .click →
      exec (.poll l now) s = .next { s with state := .release, response := okResponse 1#32 }) ∧
    (s.state = .release →
      exec (.poll l now) s = .next { s with
        state := if 0 < s.clickCount.toNat then .waitClicks else .waitTimeout,
        stepCount := 0#8, stateEnteredAt := now, response := okResponse 1#32 }) ∧
    (s.state = .clicks →
      exec (.poll l now) s =
        .next { s with state := .waitTimeout, clickCount := 0#8, response := okResponse 1#32 }) ∧
    (s.state = .timeout →
      exec (.poll l now) s = .next { s with state := .idle, response := okResponse 1#32 })

/-- R123, R125, R126, R128, R129: the rows of Idle, WaitHold and WaitStep, each with all it writes, and what holds the
state. -/
def Obligations.PollWaitRowsBeforeStep : Prop :=
  ∀ (l : Level) (now : Word) (s : State) (e : Nat), e = (now - s.stateEnteredAt).toNat →
    (s.state = .idle → l = true →
      exec (.poll l now) s = .next { s with state := .press, response := okResponse 1#32 }) ∧
    (s.state = .idle → l = false →
      exec (.poll l now) s = .next { s with response := okResponse 0#32 }) ∧
    (s.state = .waitHold → l = false →
      exec (.poll l now) s = .next { s with
        state := .click, clickCount := BitVec.ofNat 8 (min (s.clickCount.toNat + 1) 255),
        response := okResponse 1#32 }) ∧
    (s.state = .waitHold → l = true → s.cfg.holdMs.toNat ≤ e →
      exec (.poll l now) s = .next { s with state := .hold, stateEnteredAt := now, response := okResponse 1#32 }) ∧
    (s.state = .waitHold → l = true → e < s.cfg.holdMs.toNat →
      exec (.poll l now) s = .next { s with response := okResponse 0#32 }) ∧
    (s.state = .waitStep → l = false →
      exec (.poll l now) s = .next { s with state := .releaseHold, response := okResponse 1#32 }) ∧
    (s.state = .waitStep → l = true → s.cfg.stepMs.toNat ≤ e →
      exec (.poll l now) s = .next { s with state := .step, stateEnteredAt := now, response := okResponse 1#32 }) ∧
    (s.state = .waitStep → l = true → e < s.cfg.stepMs.toNat →
      exec (.poll l now) s = .next { s with response := okResponse 0#32 })

/-- R131, R132, R136, R137, R139, R140: the rows of WaitNextStep, WaitClicks and WaitTimeout, each with all it writes, and what
holds the state. -/
def Obligations.PollWaitRowsAfterStep : Prop :=
  ∀ (l : Level) (now : Word) (s : State) (e : Nat), e = (now - s.stateEnteredAt).toNat →
    (s.state = .waitNextStep → l = false →
      exec (.poll l now) s = .next { s with state := .releaseStep, response := okResponse 1#32 }) ∧
    (s.state = .waitNextStep → l = true → s.cfg.stepPeriodMs.toNat ≤ e →
      exec (.poll l now) s = .next { s with
        state := .step, stepCount := BitVec.ofNat 8 (min (s.stepCount.toNat + 1) 255), stateEnteredAt := now,
        response := okResponse 1#32 }) ∧
    (s.state = .waitNextStep → l = true → e < s.cfg.stepPeriodMs.toNat →
      exec (.poll l now) s = .next { s with response := okResponse 0#32 }) ∧
    (s.state = .waitClicks → l = true →
      exec (.poll l now) s = .next { s with state := .press, response := okResponse 1#32 }) ∧
    (s.state = .waitClicks → l = false → s.cfg.clickWindowMs.toNat ≤ e →
      exec (.poll l now) s = .next { s with state := .clicks, stateEnteredAt := now, response := okResponse 1#32 }) ∧
    (s.state = .waitClicks → l = false → e < s.cfg.clickWindowMs.toNat →
      exec (.poll l now) s = .next { s with response := okResponse 0#32 }) ∧
    (s.state = .waitTimeout → l = true →
      exec (.poll l now) s = .next { s with state := .press, response := okResponse 1#32 }) ∧
    (s.state = .waitTimeout → l = false → s.cfg.timeoutMs.toNat ≤ e →
      exec (.poll l now) s = .next { s with state := .timeout, response := okResponse 1#32 }) ∧
    (s.state = .waitTimeout → l = false → e < s.cfg.timeoutMs.toNat →
      exec (.poll l now) s = .next { s with response := okResponse 0#32 })

/-- R121: where the level row and the threshold row of one state both hold in a call, the level row fires. -/
def Obligations.LevelRowWinsOverThreshold : Prop :=
  ∀ (now : Word) (s t : State) (e : Nat), e = (now - s.stateEnteredAt).toNat →
    (s.state = .waitHold → s.cfg.holdMs.toNat ≤ e → exec (.poll false now) s = .next t → t.state = .click) ∧
    (s.state = .waitStep → s.cfg.stepMs.toNat ≤ e → exec (.poll false now) s = .next t → t.state = .releaseHold) ∧
    (s.state = .waitNextStep → s.cfg.stepPeriodMs.toNat ≤ e → exec (.poll false now) s = .next t →
      t.state = .releaseStep) ∧
    (s.state = .waitClicks → s.cfg.clickWindowMs.toNat ≤ e → exec (.poll true now) s = .next t → t.state = .press) ∧
    (s.state = .waitTimeout → s.cfg.timeoutMs.toNat ≤ e → exec (.poll true now) s = .next t → t.state = .press)

/-- R143: TICK is DEBOUNCE, then POLL on the stable level it gives, both at the same time, with the stable level in bit 1 and
the changed flag in bit 0 of its result; and its words. -/
def Obligations.TickIsDebounceThenPoll : Prop :=
  ∀ (l : Level) (now : Word) (s : State), ∃ d p,
    exec (.debounce l now) s = .next d ∧ exec (.poll d.stableLevel now) d = .next p ∧
    exec (.tick l now) s = .next { p with
      response := okResponse (BitVec.ofNat 32
        ((if d.stableLevel = true then 2 else 0) + (if p.state = s.state then 0 else 1))) } ∧
    encode (.tick l now) = ⟨if l = true then 0x00000101#32 else 0x00000001#32, now, 0#32⟩

/-- R144: RESET gives Idle with both counters 0 and result 0, and writes nothing else; and its words. -/
def Obligations.ResetClearsGestureState : Prop :=
  ∀ s : State, exec .reset s = .next { s with
      state := .idle, clickCount := 0#8, stepCount := 0#8, response := okResponse 0#32 } ∧
    encode .reset = ⟨0x00000004#32, 0#32, 0#32⟩

/-- R247, R144: a RESET while the stable level is 1 gives Idle, and the next POLL or TICK with level 1 enters Press, that TICK
with result 3. -/
def Obligations.HeldButtonPressesAgainAfterReset : Prop :=
  ∀ (s : State) (now : Word), s.stableLevel = true →
    ∃ t p u, exec .reset s = .next t ∧ t.state = .idle ∧ t.stableLevel = true ∧
      exec (.poll true now) t = .next p ∧ p.state = .press ∧ p.response = okResponse 1#32 ∧
      exec (.tick true now) t = .next u ∧ u.state = .press ∧ u.stableLevel = true ∧ u.response = okResponse 3#32

/-- R235, which the spec marks as derived: from power-on with the button held, TICKs that see 1 enter Press at the first one
at least `DEBOUNCE_MS` after the first TICK (for a `DEBOUNCE_MS` that is not 0; each TICK before it stays in Idle). -/
def Obligations.HeldButtonAtPowerOnPresses : Prop :=
  ∀ (s : State) (first last : Word) (between : List Word),
    (∀ t ∈ first :: between, (t - first).toNat < s.cfg.debounceMs.toNat) →
    s.cfg.debounceMs.toNat ≤ (last - first).toNat →
      ∃ u v, runAll ((first :: between).map (Instr.tick true)) s.powerOnReset = some u ∧ u.state = .idle ∧
        u.stableLevel = false ∧
        exec (.tick true last) u = .next v ∧ v.state = .press ∧ v.stableLevel = true ∧ v.response = okResponse 3#32

/-- R145: NOP, the all-zero command, answers result 0 and writes nothing. -/
def Obligations.NopWritesNothing : Prop :=
  ∀ s : State, exec .nop s = .next { s with response := okResponse 0#32 } ∧ encode .nop = ⟨0#32, 0#32, 0#32⟩

/-- R147, which the spec marks as derived: an event state is left by the next POLL or TICK whatever its level, with the changed
bit 1; DEBOUNCE, NOP and the queries leave the state in place; RESET leaves it for Idle. -/
def Obligations.EventStateLastsOnePoll : Prop :=
  ∀ (s t : State) (i : Instr),
    s.state ∈ [Gesture.press, .hold, .step, .releaseHold, .releaseStep, .click, .release, .clicks, .timeout] →
    exec i s = .next t →
    (∀ l now, i = .poll l now → t.state ≠ s.state ∧ t.response = okResponse 1#32) ∧
    (∀ l now, i = .tick l now →
      t.state ≠ s.state ∧ (t.response = okResponse 1#32 ∨ t.response = okResponse 3#32)) ∧
    (i = .reset → t.state = .idle) ∧
    ((∀ l now, i ≠ .poll l now ∧ i ≠ .tick l now) → i ≠ .reset → t.state = s.state)

/-- R148, R149, which the spec marks as derived: a command moves the state along at most one row of the table, or to Idle by
RESET. -/
def Obligations.OneRowPerCommand : Prop :=
  ∀ (i : Instr) (s t : State), exec i s = .next t → t.state ≠ s.state →
    (i = .reset ∧ t.state = .idle) ∨
    ((∃ l now, i = .poll l now ∨ i = .tick l now) ∧ (s.state, t.state) ∈ tableEdges)

/-- R149, which the spec marks as derived: whatever the thresholds and the registers, POLLs alone lead from any state to any
state. -/
def Obligations.PollsReachEveryState : Prop :=
  ∀ (s : State) (g : Gesture), ∃ (calls : List (Level × Word)) (t : State),
    runAll (calls.map (fun c => Instr.poll c.1 c.2)) s = some t ∧ t.state = g

/-- R146, which the spec marks as derived: `stateEnteredAt` is written, with the command's time, exactly on the moves whose row
resets the timer, and by no other command. -/
def Obligations.TimerWrittenByResetRowsOnly : Prop :=
  ∀ (i : Instr) (s t : State), exec i s = .next t →
    (∀ l now, i = .poll l now ∨ i = .tick l now →
      t.stateEnteredAt = if (s.state, t.state) ∈ timerEdges then now else s.stateEnteredAt) ∧
    ((∀ l now, i ≠ .poll l now ∧ i ≠ .tick l now) → t.stateEnteredAt = s.stateEnteredAt)

/-- R150, which the spec marks as derived: however late a POLL comes in WaitNextStep, it makes one Step, adds 1 to `stepCount`
(below 255) and starts the next period at its own time. -/
def Obligations.LatePollMakesOneStep : Prop :=
  ∀ (s : State) (now : Word) (k : Nat), s.state = .waitNextStep → 0 < k → s.stepCount.toNat < 255 →
    (now - s.stateEnteredAt).toNat = k * s.cfg.stepPeriodMs.toNat →
      ∃ t, exec (.poll true now) s = .next t ∧ t.state = .step ∧
        t.stepCount.toNat = s.stepCount.toNat + 1 ∧ t.stateEnteredAt = now

/-- R22, R23: a counter is counted up, saturating, only by its own row, and cleared only by the rows that clear it, each on the
move it makes, and by RESET. -/
def Obligations.CountersChangeOnlyByTheirRows : Prop :=
  ∀ (i : Instr) (s t : State), exec i s = .next t →
    (t.clickCount = s.clickCount ∨
      (s.state = .waitHold ∧ t.state = .click ∧ t.clickCount.toNat = min (s.clickCount.toNat + 1) 255) ∨
      (t.clickCount = 0#8 ∧
        (i = .reset ∨
         ((∃ l now, i = .poll l now ∨ i = .tick l now) ∧
          (((s.state = .releaseHold ∨ s.state = .releaseStep) ∧ t.state = .release) ∨
           (s.state = .clicks ∧ t.state = .waitTimeout)))))) ∧
    (t.stepCount = s.stepCount ∨
      (s.state = .waitNextStep ∧ t.state = .step ∧ t.stepCount.toNat = min (s.stepCount.toNat + 1) 255) ∨
      (t.stepCount = 0#8 ∧
        (i = .reset ∨
         ((∃ l now, i = .poll l now ∨ i = .tick l now) ∧
          s.state = .release ∧ (t.state = .waitClicks ∨ t.state = .waitTimeout)))))

/-- R20, R24, R106, R142, R160, R233: which commands may write which registers; and that none writes a threshold (R29), which
stand in the state by the model's choice (log 1), or the queue of the port, which is the model's choice too (log 2). -/
def Obligations.RegisterWriters : Prop :=
  ∀ (i : Instr) (s t : State), exec i s = .next t →
    t.cfg = s.cfg ∧ t.input = s.input ∧
    ((∀ l now, i ≠ .poll l now ∧ i ≠ .tick l now) → i ≠ .reset → SameGesture t s) ∧
    ((∀ l now, i ≠ .debounce l now ∧ i ≠ .tick l now) → SameFilter t s)

/-! ## Invariants -/

/-- R39, which the spec marks as derived: every step keeps the counter invariants, from any state that has them. -/
def Obligations.EveryStepKeepsCounterInvariants : Prop :=
  ∀ s t : State, CounterInv s → step s = .next t → CounterInv t

/-- R37, which the spec marks as derived: every step keeps the debounce invariant, from any state that has it. -/
def Obligations.EveryStepKeepsDebounceInvariant : Prop :=
  ∀ s t : State, DebounceInv s → step s = .next t → DebounceInv t

/-- R37, R39: the machine after reset has both invariants, and so has any block right after power-on reset. -/
def Obligations.ResetIsGood : Prop :=
  Good State.reset ∧
  ∀ (s : State) (rest : List Input), s.input = .resetInput :: rest → ∃ t, step s = .next t ∧ Good t

/-- R39, which the spec marks as derived: in a good state, Release entered from Click has `clickCount` at least 1, and entered
from ReleaseHold or ReleaseStep has it 0. -/
def Obligations.ReleaseCountByOrigin : Prop :=
  ∀ (i : Instr) (s t : State), Good s → exec i s = .next t → t.state = .release → s.state ≠ .release →
    (s.state = .click ∧ 1 ≤ t.clickCount.toNat) ∨
    ((s.state = .releaseHold ∨ s.state = .releaseStep) ∧ t.clickCount = 0#8)

/-! ## Queries -/

/-- R160: every query answers a next state that differs from the state before it in the response alone, and asked again it
gives the same answer. -/
def Obligations.QueriesOnlyAnswer : Prop :=
  ∀ (i : Instr) (s : State), isQuery i = true →
    ∃ r, exec i s = .next { s with response := okResponse r } ∧
      exec i { s with response := okResponse r } = .next { s with response := okResponse r }

/-- R161 to R171: each event query, with and without a qualifier. -/
def Obligations.EventQueryAnswers : Prop :=
  ∀ (nv : Bool) (n : Byte) (s : State),
    exec (.evPress nv n) s = .next { s with
      response := okResponse (bit (s.state = .press ∧ (nv = true → s.clickCount = n))) } ∧
    exec (.evClick nv n) s = .next { s with
      response := okResponse (bit (s.state = .click ∧ (nv = true → s.clickCount = n))) } ∧
    exec (.evHold nv n) s = .next { s with
      response := okResponse (bit (s.state = .hold ∧ (nv = true → s.clickCount = n))) } ∧
    exec (.evReleaseHold nv n) s = .next { s with
      response := okResponse (bit (s.state = .releaseHold ∧ (nv = true → s.clickCount = n))) } ∧
    exec (.evStep nv n) s = .next { s with
      response := okResponse (bit (s.state = .step ∧ (nv = true → s.clickCount = n))) } ∧
    exec (.evReleaseStep nv n) s = .next { s with
      response := okResponse (bit (s.state = .releaseStep ∧ (nv = true → s.clickCount = n))) } ∧
    exec (.evRelease nv n) s = .next { s with
      response := okResponse (bit (s.state = .release ∧ (nv = true → s.clickCount = n))) } ∧
    exec (.evHasClicks nv n) s = .next { s with
      response := okResponse (bit (s.state = .clicks ∧ (nv = true → s.clickCount = n))) } ∧
    exec (.evTimeout nv n) s = .next { s with
      response := okResponse (bit (s.state = .timeout ∧ (nv = true → s.clickCount = n))) }

/-- R36, R161: at most one of the nine event flags is 1. -/
def Obligations.AtMostOneEventFlag : Prop :=
  ∀ (i j : Instr) (s t u : State),
    i ∈ [Instr.evPress false 0#8, .evClick false 0#8, .evHold false 0#8, .evReleaseHold false 0#8, .evStep false 0#8,
      .evReleaseStep false 0#8, .evRelease false 0#8, .evHasClicks false 0#8, .evTimeout false 0#8] →
    j ∈ [Instr.evPress false 0#8, .evClick false 0#8, .evHold false 0#8, .evReleaseHold false 0#8, .evStep false 0#8,
      .evReleaseStep false 0#8, .evRelease false 0#8, .evHasClicks false 0#8, .evTimeout false 0#8] →
    exec i s = .next t → exec j s = .next u → t.response = okResponse 1#32 → u.response = okResponse 1#32 → i = j

/-- R172: IS_EVENT answers whether the state is one of the nine event states; and its words. -/
def Obligations.IsEventAnswers : Prop :=
  ∀ s : State, exec .isEvent s = .next { s with response := okResponse (bit (s.state ∈
      [Gesture.press, .click, .hold, .releaseHold, .step, .releaseStep, .release, .clicks, .timeout])) } ∧
    encode .isEvent = ⟨0x00000019#32, 0#32, 0#32⟩

/-- R173, R174: IS_PRESSING answers whether the state is in the press-holding subset, whatever the stable level is; and its
words. -/
def Obligations.IsPressingAnswers : Prop :=
  ∀ s : State, exec .isPressing s = .next { s with response := okResponse (bit (s.state ∈
      [Gesture.press, .waitHold, .hold, .waitStep, .step, .waitNextStep])) } ∧
    encode .isPressing = ⟨0x0000001A#32, 0#32, 0#32⟩

/-- R21, R175 to R178: GET_CLICKS, GET_STEPS, GET_STATE with the codes of the table, and GET_LEVEL; and their words. -/
def Obligations.RegisterReadsAnswer : Prop :=
  ∀ s : State,
    exec .getClicks s = .next { s with response := okResponse (BitVec.ofNat 32 s.clickCount.toNat) } ∧
    exec .getSteps s = .next { s with response := okResponse (BitVec.ofNat 32 s.stepCount.toNat) } ∧
    exec .getLevel s = .next { s with response := okResponse (bit (s.stableLevel = true)) } ∧
    encode .getClicks = ⟨0x00000009#32, 0#32, 0#32⟩ ∧ encode .getSteps = ⟨0x0000000A#32, 0#32, 0#32⟩ ∧
    encode .getLevel = ⟨0x0000000B#32, 0#32, 0#32⟩ ∧ encode .getState = ⟨0x00000008#32, 0#32, 0#32⟩ ∧
    ∃ code : Word, exec .getState s = .next { s with response := okResponse code } ∧
      code = match s.state with
        | .idle => 0#32 | .press => 1#32 | .waitHold => 2#32 | .hold => 3#32 | .waitStep => 4#32 | .step => 5#32
        | .waitNextStep => 6#32 | .releaseHold => 7#32 | .releaseStep => 8#32 | .click => 9#32 | .release => 10#32
        | .waitClicks => 11#32 | .clicks => 12#32 | .waitTimeout => 13#32 | .timeout => 14#32

/-- R179, R182: GET_PRESS_TIME answers the exact press duration, or 0xFFFFFFFF where it is larger; and its words. -/
def Obligations.PressTimeAnswers : Prop :=
  ∀ (now : Word) (s : State), ∃ r : Word,
    exec (.getPressTime now) s = .next { s with response := okResponse r } ∧
    encode (.getPressTime now) = ⟨0x0000000C#32, now, 0#32⟩ ∧
    ∀ e, e = (now - s.stateEnteredAt).toNat →
      r.toNat = min 0xFFFFFFFF (match s.state with
        | .waitHold => e
        | .hold | .waitStep => s.cfg.holdMs.toNat + e
        | .step | .waitNextStep =>
          s.cfg.holdMs.toNat + s.cfg.stepMs.toNat + s.stepCount.toNat * s.cfg.stepPeriodMs.toNat + e
        | _ => 0)

/-- R180, R183: GET_HOLD_TIME answers the exact hold duration, or 0xFFFFFFFF where it is larger; and its words. -/
def Obligations.HoldTimeAnswers : Prop :=
  ∀ (now : Word) (s : State), ∃ r : Word,
    exec (.getHoldTime now) s = .next { s with response := okResponse r } ∧
    encode (.getHoldTime now) = ⟨0x0000000D#32, now, 0#32⟩ ∧
    ∀ e, e = (now - s.stateEnteredAt).toNat →
      r.toNat = min 0xFFFFFFFF (match s.state with
        | .hold | .waitStep => e
        | .step | .waitNextStep => s.cfg.stepMs.toNat + s.stepCount.toNat * s.cfg.stepPeriodMs.toNat + e
        | _ => 0)

/-- R181, R184: GET_STEP_TIME answers the exact step duration, or 0xFFFFFFFF where it is larger; and its words. -/
def Obligations.StepTimeAnswers : Prop :=
  ∀ (now : Word) (s : State), ∃ r : Word,
    exec (.getStepTime now) s = .next { s with response := okResponse r } ∧
    encode (.getStepTime now) = ⟨0x0000000E#32, now, 0#32⟩ ∧
    ∀ e, e = (now - s.stateEnteredAt).toNat →
      r.toNat = min 0xFFFFFFFF (match s.state with
        | .step | .waitNextStep => s.stepCount.toNat * s.cfg.stepPeriodMs.toNat + e
        | _ => 0)

/-- R185, R186, R187, R173: each duration predicate answers whether the state is in its subset and the exact duration is at
least `ms`; and their words. -/
def Obligations.DurationPredicatesAnswer : Prop :=
  ∀ (now ms : Word) (s : State) (e : Nat), e = (now - s.stateEnteredAt).toNat →
    (∃ b : Bool, exec (.pressFor now ms) s = .next { s with response := okResponse (bit (b = true)) } ∧
      (b = true ↔ match s.state with
        | .press => ms.toNat ≤ 0
        | .waitHold => ms.toNat ≤ e
        | .hold | .waitStep => ms.toNat ≤ s.cfg.holdMs.toNat + e
        | .step | .waitNextStep =>
          ms.toNat ≤ s.cfg.holdMs.toNat + s.cfg.stepMs.toNat + s.stepCount.toNat * s.cfg.stepPeriodMs.toNat + e
        | _ => False)) ∧
    (∃ b : Bool, exec (.holdFor now ms) s = .next { s with response := okResponse (bit (b = true)) } ∧
      (b = true ↔ match s.state with
        | .hold | .waitStep => ms.toNat ≤ e
        | .step | .waitNextStep =>
          ms.toNat ≤ s.cfg.stepMs.toNat + s.stepCount.toNat * s.cfg.stepPeriodMs.toNat + e
        | _ => False)) ∧
    (∃ b : Bool, exec (.stepFor now ms) s = .next { s with response := okResponse (bit (b = true)) } ∧
      (b = true ↔ match s.state with
        | .step | .waitNextStep => ms.toNat ≤ s.stepCount.toNat * s.cfg.stepPeriodMs.toNat + e
        | _ => False)) ∧
    encode (.pressFor now ms) = ⟨0x0000001C#32, now, ms⟩ ∧ encode (.holdFor now ms) = ⟨0x0000001D#32, now, ms⟩ ∧
    encode (.stepFor now ms) = ⟨0x0000001E#32, now, ms⟩

/-- R182 with R185, and likewise for hold and step: in its subset a duration predicate answers 1 exactly when the read-out
of the same duration is at least `ms`. -/
def Obligations.PredicatesAgreeWithReadouts : Prop :=
  ∀ (now ms r : Word) (s : State),
    (s.state ∈ [Gesture.press, .waitHold, .hold, .waitStep, .step, .waitNextStep] →
      exec (.getPressTime now) s = .next { s with response := okResponse r } →
      exec (.pressFor now ms) s = .next { s with response := okResponse (bit (ms.toNat ≤ r.toNat)) }) ∧
    (s.state ∈ [Gesture.hold, .waitStep, .step, .waitNextStep] →
      exec (.getHoldTime now) s = .next { s with response := okResponse r } →
      exec (.holdFor now ms) s = .next { s with response := okResponse (bit (ms.toNat ≤ r.toNat)) }) ∧
    (s.state ∈ [Gesture.step, .waitNextStep] →
      exec (.getStepTime now) s = .next { s with response := okResponse r } →
      exec (.stepFor now ms) s = .next { s with response := okResponse (bit (ms.toNat ≤ r.toNat)) })

/-! ## What no command can tell apart -/

/-- R27, R35, R38, which the spec marks as derived: `dbCandidate`, `dbTimestamp` while no timer runs, and `stateEnteredAt` in
Idle and Press never reach a response: states that differ only there still do after every step, with equal responses. -/
def Obligations.HiddenRegistersStayHidden : Prop :=
  ∀ (k : Nat) (s1 s2 t1 t2 : State), Indistinguishable s1 s2 →
    Host.Core.run Sys2Proof.core k s1 = .next t1 → Host.Core.run Sys2Proof.core k s2 = .next t2 →
      Indistinguishable t1 t2

/-- R17, and W8 of 95_test_vectors.md: the same commands on a clock that runs `k` later, wrapping where it does, give the same
responses and the same registers, the timestamps `k` later. -/
def Obligations.ShiftedClockSameBehaviour : Prop :=
  ∀ (k : Word) (is : List Instr) (s t : State),
    runAll is s = some t → runAll (is.map (shiftTime k)) (shiftStamps k s) = some (shiftStamps k t)
end

