-- ==== Sys2Proof/Laws/Operands.lean ====
section
/-! SUPPORT. One lemma per value operation, in the arithmetic the statements are written in. -/

namespace Sys2Proof.Machine

theorem elapsed_eq (now since : Word) : elapsed now since = now - since := rfl

@[simp] theorem elapsed_self (now : Word) : elapsed now now = 0#32 := by simp [elapsed]

/-- Both ends of an interval shifted alike give the same interval (R17). -/
@[simp] theorem elapsed_shift (now since k : Word) : elapsed (now + k) (since + k) = elapsed now since := by
  simp only [elapsed]; bv_omega

theorem reached_iff (threshold e : Word) : reached threshold e = true ↔ threshold.toNat ≤ e.toNat := by
  simp [reached, BitVec.le_def]

theorem reached_false_iff (threshold e : Word) : reached threshold e = false ↔ e.toNat < threshold.toNat := by
  simp [reached, BitVec.le_def]

theorem satInc8_toNat_le (c : Byte) : (satInc8 c).toNat ≤ 255 := by
  have := (satInc8 c).isLt
  omega

/-- A counter that has been counted up is not 0 (R39). -/
theorem satInc8_ne_zero (c : Byte) : satInc8 c ≠ 0#8 := by
  unfold satInc8
  split
  · decide
  · rename_i h
    intro h'
    apply h
    bv_omega

theorem zextBool_true : zextBool true = 1#32 := rfl

theorem zextBool_false : zextBool false = 0#32 := rfl

theorem zextBool_decide (p : Prop) [Decidable p] : zextBool (decide p) = if p then 1#32 else 0#32 := by
  by_cases h : p <;> simp [zextBool, h]

theorem tickResult_eq (stable ch : Bool) :
    tickResult stable ch = BitVec.ofNat 32 ((if stable then 2 else 0) + (if ch then 1 else 0)) := by
  cases stable <;> cases ch <;> rfl

theorem saturate32_toNat (d : Nat) : (saturate32 d).toNat = min 0xFFFFFFFF d := by
  simp only [saturate32, BitVec.toNat_ofNat]
  omega

theorem evq_iff (flag nv : Bool) (n count : Byte) :
    evq flag nv n count = true ↔ flag = true ∧ (nv = true → count = n) := by
  cases flag <;> cases nv <;> simp [evq]

theorem inState_iff (g : Gesture) (s : State) : inState g s = true ↔ s.state = g := by
  simp [inState]

theorem lasted_iff (inSubset : Bool) (d : Nat) (ms : Word) :
    lasted inSubset d ms = true ↔ inSubset = true ∧ ms.toNat ≤ d := by
  simp [lasted]

/-- The codes tell the states apart (R21). -/
theorem code_injective (g h : Gesture) (e : g.code = h.code) : g = h := by
  cases g <;> cases h <;> first | rfl | (exact absurd e (by decide))

end Sys2Proof.Machine
end

