-- ==== Sys2Proof/Laws/State.lean ====
section
/-! SUPPORT. What each update of the state leaves in each field, true by definition. -/

namespace Sys2Proof.Machine

/-! ## respond -/

@[simp] theorem State.respond_state (r : Word) (s : State) : (s.respond r).state = s.state := rfl
@[simp] theorem State.respond_clickCount (r : Word) (s : State) : (s.respond r).clickCount = s.clickCount := rfl
@[simp] theorem State.respond_stepCount (r : Word) (s : State) : (s.respond r).stepCount = s.stepCount := rfl
@[simp] theorem State.respond_stableLevel (r : Word) (s : State) : (s.respond r).stableLevel = s.stableLevel := rfl
@[simp] theorem State.respond_dbCandidate (r : Word) (s : State) : (s.respond r).dbCandidate = s.dbCandidate := rfl
@[simp] theorem State.respond_dbPending (r : Word) (s : State) : (s.respond r).dbPending = s.dbPending := rfl
@[simp] theorem State.respond_dbTimestamp (r : Word) (s : State) : (s.respond r).dbTimestamp = s.dbTimestamp := rfl
@[simp] theorem State.respond_stateEnteredAt (r : Word) (s : State) : (s.respond r).stateEnteredAt = s.stateEnteredAt := rfl
@[simp] theorem State.respond_cfg (r : Word) (s : State) : (s.respond r).cfg = s.cfg := rfl
@[simp] theorem State.respond_input (r : Word) (s : State) : (s.respond r).input = s.input := rfl
@[simp] theorem State.respond_response (r : Word) (s : State) : (s.respond r).response = some ⟨0#2, r⟩ := rfl

/-! ## raiseCommandError -/

@[simp] theorem State.raiseCommandError_state (e : CommandError) (s : State) : (s.raiseCommandError e).state = s.state := rfl
@[simp] theorem State.raiseCommandError_clickCount (e : CommandError) (s : State) : (s.raiseCommandError e).clickCount = s.clickCount := rfl
@[simp] theorem State.raiseCommandError_stepCount (e : CommandError) (s : State) : (s.raiseCommandError e).stepCount = s.stepCount := rfl
@[simp] theorem State.raiseCommandError_stableLevel (e : CommandError) (s : State) : (s.raiseCommandError e).stableLevel = s.stableLevel := rfl
@[simp] theorem State.raiseCommandError_dbCandidate (e : CommandError) (s : State) : (s.raiseCommandError e).dbCandidate = s.dbCandidate := rfl
@[simp] theorem State.raiseCommandError_dbPending (e : CommandError) (s : State) : (s.raiseCommandError e).dbPending = s.dbPending := rfl
@[simp] theorem State.raiseCommandError_dbTimestamp (e : CommandError) (s : State) : (s.raiseCommandError e).dbTimestamp = s.dbTimestamp := rfl
@[simp] theorem State.raiseCommandError_stateEnteredAt (e : CommandError) (s : State) : (s.raiseCommandError e).stateEnteredAt = s.stateEnteredAt := rfl
@[simp] theorem State.raiseCommandError_cfg (e : CommandError) (s : State) : (s.raiseCommandError e).cfg = s.cfg := rfl
@[simp] theorem State.raiseCommandError_input (e : CommandError) (s : State) : (s.raiseCommandError e).input = s.input := rfl
@[simp] theorem State.raiseCommandError_response (e : CommandError) (s : State) : (s.raiseCommandError e).response = some ⟨errorStatus e, 0#32⟩ := rfl

/-! ## clearPending -/

@[simp] theorem State.clearPending_state (raw : Level) (s : State) : (s.clearPending raw).state = s.state := rfl
@[simp] theorem State.clearPending_clickCount (raw : Level) (s : State) : (s.clearPending raw).clickCount = s.clickCount := rfl
@[simp] theorem State.clearPending_stepCount (raw : Level) (s : State) : (s.clearPending raw).stepCount = s.stepCount := rfl
@[simp] theorem State.clearPending_stableLevel (raw : Level) (s : State) : (s.clearPending raw).stableLevel = s.stableLevel := rfl
@[simp] theorem State.clearPending_dbCandidate (raw : Level) (s : State) : (s.clearPending raw).dbCandidate = raw := rfl
@[simp] theorem State.clearPending_dbPending (raw : Level) (s : State) : (s.clearPending raw).dbPending = false := rfl
@[simp] theorem State.clearPending_dbTimestamp (raw : Level) (s : State) : (s.clearPending raw).dbTimestamp = s.dbTimestamp := rfl
@[simp] theorem State.clearPending_stateEnteredAt (raw : Level) (s : State) : (s.clearPending raw).stateEnteredAt = s.stateEnteredAt := rfl
@[simp] theorem State.clearPending_cfg (raw : Level) (s : State) : (s.clearPending raw).cfg = s.cfg := rfl
@[simp] theorem State.clearPending_input (raw : Level) (s : State) : (s.clearPending raw).input = s.input := rfl
@[simp] theorem State.clearPending_response (raw : Level) (s : State) : (s.clearPending raw).response = s.response := rfl

/-! ## noteCandidate -/

@[simp] theorem State.noteCandidate_state (raw : Level) (s : State) : (s.noteCandidate raw).state = s.state := rfl
@[simp] theorem State.noteCandidate_clickCount (raw : Level) (s : State) : (s.noteCandidate raw).clickCount = s.clickCount := rfl
@[simp] theorem State.noteCandidate_stepCount (raw : Level) (s : State) : (s.noteCandidate raw).stepCount = s.stepCount := rfl
@[simp] theorem State.noteCandidate_stableLevel (raw : Level) (s : State) : (s.noteCandidate raw).stableLevel = s.stableLevel := rfl
@[simp] theorem State.noteCandidate_dbCandidate (raw : Level) (s : State) : (s.noteCandidate raw).dbCandidate = raw := rfl
@[simp] theorem State.noteCandidate_dbPending (raw : Level) (s : State) : (s.noteCandidate raw).dbPending = s.dbPending := rfl
@[simp] theorem State.noteCandidate_dbTimestamp (raw : Level) (s : State) : (s.noteCandidate raw).dbTimestamp = s.dbTimestamp := rfl
@[simp] theorem State.noteCandidate_stateEnteredAt (raw : Level) (s : State) : (s.noteCandidate raw).stateEnteredAt = s.stateEnteredAt := rfl
@[simp] theorem State.noteCandidate_cfg (raw : Level) (s : State) : (s.noteCandidate raw).cfg = s.cfg := rfl
@[simp] theorem State.noteCandidate_input (raw : Level) (s : State) : (s.noteCandidate raw).input = s.input := rfl
@[simp] theorem State.noteCandidate_response (raw : Level) (s : State) : (s.noteCandidate raw).response = s.response := rfl

/-! ## commitLevel -/

@[simp] theorem State.commitLevel_state (raw : Level) (s : State) : (s.commitLevel raw).state = s.state := rfl
@[simp] theorem State.commitLevel_clickCount (raw : Level) (s : State) : (s.commitLevel raw).clickCount = s.clickCount := rfl
@[simp] theorem State.commitLevel_stepCount (raw : Level) (s : State) : (s.commitLevel raw).stepCount = s.stepCount := rfl
@[simp] theorem State.commitLevel_stableLevel (raw : Level) (s : State) : (s.commitLevel raw).stableLevel = raw := rfl
@[simp] theorem State.commitLevel_dbCandidate (raw : Level) (s : State) : (s.commitLevel raw).dbCandidate = s.dbCandidate := rfl
@[simp] theorem State.commitLevel_dbPending (raw : Level) (s : State) : (s.commitLevel raw).dbPending = false := rfl
@[simp] theorem State.commitLevel_dbTimestamp (raw : Level) (s : State) : (s.commitLevel raw).dbTimestamp = s.dbTimestamp := rfl
@[simp] theorem State.commitLevel_stateEnteredAt (raw : Level) (s : State) : (s.commitLevel raw).stateEnteredAt = s.stateEnteredAt := rfl
@[simp] theorem State.commitLevel_cfg (raw : Level) (s : State) : (s.commitLevel raw).cfg = s.cfg := rfl
@[simp] theorem State.commitLevel_input (raw : Level) (s : State) : (s.commitLevel raw).input = s.input := rfl
@[simp] theorem State.commitLevel_response (raw : Level) (s : State) : (s.commitLevel raw).response = s.response := rfl

/-! ## enter -/

@[simp] theorem State.enter_state (g : Gesture) (s : State) : (s.enter g).state = g := rfl
@[simp] theorem State.enter_clickCount (g : Gesture) (s : State) : (s.enter g).clickCount = s.clickCount := rfl
@[simp] theorem State.enter_stepCount (g : Gesture) (s : State) : (s.enter g).stepCount = s.stepCount := rfl
@[simp] theorem State.enter_stableLevel (g : Gesture) (s : State) : (s.enter g).stableLevel = s.stableLevel := rfl
@[simp] theorem State.enter_dbCandidate (g : Gesture) (s : State) : (s.enter g).dbCandidate = s.dbCandidate := rfl
@[simp] theorem State.enter_dbPending (g : Gesture) (s : State) : (s.enter g).dbPending = s.dbPending := rfl
@[simp] theorem State.enter_dbTimestamp (g : Gesture) (s : State) : (s.enter g).dbTimestamp = s.dbTimestamp := rfl
@[simp] theorem State.enter_stateEnteredAt (g : Gesture) (s : State) : (s.enter g).stateEnteredAt = s.stateEnteredAt := rfl
@[simp] theorem State.enter_cfg (g : Gesture) (s : State) : (s.enter g).cfg = s.cfg := rfl
@[simp] theorem State.enter_input (g : Gesture) (s : State) : (s.enter g).input = s.input := rfl
@[simp] theorem State.enter_response (g : Gesture) (s : State) : (s.enter g).response = s.response := rfl

/-! ## resetTimer -/

@[simp] theorem State.resetTimer_state (now : Word) (s : State) : (s.resetTimer now).state = s.state := rfl
@[simp] theorem State.resetTimer_clickCount (now : Word) (s : State) : (s.resetTimer now).clickCount = s.clickCount := rfl
@[simp] theorem State.resetTimer_stepCount (now : Word) (s : State) : (s.resetTimer now).stepCount = s.stepCount := rfl
@[simp] theorem State.resetTimer_stableLevel (now : Word) (s : State) : (s.resetTimer now).stableLevel = s.stableLevel := rfl
@[simp] theorem State.resetTimer_dbCandidate (now : Word) (s : State) : (s.resetTimer now).dbCandidate = s.dbCandidate := rfl
@[simp] theorem State.resetTimer_dbPending (now : Word) (s : State) : (s.resetTimer now).dbPending = s.dbPending := rfl
@[simp] theorem State.resetTimer_dbTimestamp (now : Word) (s : State) : (s.resetTimer now).dbTimestamp = s.dbTimestamp := rfl
@[simp] theorem State.resetTimer_stateEnteredAt (now : Word) (s : State) : (s.resetTimer now).stateEnteredAt = now := rfl
@[simp] theorem State.resetTimer_cfg (now : Word) (s : State) : (s.resetTimer now).cfg = s.cfg := rfl
@[simp] theorem State.resetTimer_input (now : Word) (s : State) : (s.resetTimer now).input = s.input := rfl
@[simp] theorem State.resetTimer_response (now : Word) (s : State) : (s.resetTimer now).response = s.response := rfl

/-! ## countClick -/

@[simp] theorem State.countClick_state (s : State) : s.countClick.state = s.state := rfl
@[simp] theorem State.countClick_clickCount (s : State) : s.countClick.clickCount = satInc8 s.clickCount := rfl
@[simp] theorem State.countClick_stepCount (s : State) : s.countClick.stepCount = s.stepCount := rfl
@[simp] theorem State.countClick_stableLevel (s : State) : s.countClick.stableLevel = s.stableLevel := rfl
@[simp] theorem State.countClick_dbCandidate (s : State) : s.countClick.dbCandidate = s.dbCandidate := rfl
@[simp] theorem State.countClick_dbPending (s : State) : s.countClick.dbPending = s.dbPending := rfl
@[simp] theorem State.countClick_dbTimestamp (s : State) : s.countClick.dbTimestamp = s.dbTimestamp := rfl
@[simp] theorem State.countClick_stateEnteredAt (s : State) : s.countClick.stateEnteredAt = s.stateEnteredAt := rfl
@[simp] theorem State.countClick_cfg (s : State) : s.countClick.cfg = s.cfg := rfl
@[simp] theorem State.countClick_input (s : State) : s.countClick.input = s.input := rfl
@[simp] theorem State.countClick_response (s : State) : s.countClick.response = s.response := rfl

/-! ## clearClicks -/

@[simp] theorem State.clearClicks_state (s : State) : s.clearClicks.state = s.state := rfl
@[simp] theorem State.clearClicks_clickCount (s : State) : s.clearClicks.clickCount = 0#8 := rfl
@[simp] theorem State.clearClicks_stepCount (s : State) : s.clearClicks.stepCount = s.stepCount := rfl
@[simp] theorem State.clearClicks_stableLevel (s : State) : s.clearClicks.stableLevel = s.stableLevel := rfl
@[simp] theorem State.clearClicks_dbCandidate (s : State) : s.clearClicks.dbCandidate = s.dbCandidate := rfl
@[simp] theorem State.clearClicks_dbPending (s : State) : s.clearClicks.dbPending = s.dbPending := rfl
@[simp] theorem State.clearClicks_dbTimestamp (s : State) : s.clearClicks.dbTimestamp = s.dbTimestamp := rfl
@[simp] theorem State.clearClicks_stateEnteredAt (s : State) : s.clearClicks.stateEnteredAt = s.stateEnteredAt := rfl
@[simp] theorem State.clearClicks_cfg (s : State) : s.clearClicks.cfg = s.cfg := rfl
@[simp] theorem State.clearClicks_input (s : State) : s.clearClicks.input = s.input := rfl
@[simp] theorem State.clearClicks_response (s : State) : s.clearClicks.response = s.response := rfl

/-! ## countStep -/

@[simp] theorem State.countStep_state (s : State) : s.countStep.state = s.state := rfl
@[simp] theorem State.countStep_clickCount (s : State) : s.countStep.clickCount = s.clickCount := rfl
@[simp] theorem State.countStep_stepCount (s : State) : s.countStep.stepCount = satInc8 s.stepCount := rfl
@[simp] theorem State.countStep_stableLevel (s : State) : s.countStep.stableLevel = s.stableLevel := rfl
@[simp] theorem State.countStep_dbCandidate (s : State) : s.countStep.dbCandidate = s.dbCandidate := rfl
@[simp] theorem State.countStep_dbPending (s : State) : s.countStep.dbPending = s.dbPending := rfl
@[simp] theorem State.countStep_dbTimestamp (s : State) : s.countStep.dbTimestamp = s.dbTimestamp := rfl
@[simp] theorem State.countStep_stateEnteredAt (s : State) : s.countStep.stateEnteredAt = s.stateEnteredAt := rfl
@[simp] theorem State.countStep_cfg (s : State) : s.countStep.cfg = s.cfg := rfl
@[simp] theorem State.countStep_input (s : State) : s.countStep.input = s.input := rfl
@[simp] theorem State.countStep_response (s : State) : s.countStep.response = s.response := rfl

/-! ## clearSteps -/

@[simp] theorem State.clearSteps_state (s : State) : s.clearSteps.state = s.state := rfl
@[simp] theorem State.clearSteps_clickCount (s : State) : s.clearSteps.clickCount = s.clickCount := rfl
@[simp] theorem State.clearSteps_stepCount (s : State) : s.clearSteps.stepCount = 0#8 := rfl
@[simp] theorem State.clearSteps_stableLevel (s : State) : s.clearSteps.stableLevel = s.stableLevel := rfl
@[simp] theorem State.clearSteps_dbCandidate (s : State) : s.clearSteps.dbCandidate = s.dbCandidate := rfl
@[simp] theorem State.clearSteps_dbPending (s : State) : s.clearSteps.dbPending = s.dbPending := rfl
@[simp] theorem State.clearSteps_dbTimestamp (s : State) : s.clearSteps.dbTimestamp = s.dbTimestamp := rfl
@[simp] theorem State.clearSteps_stateEnteredAt (s : State) : s.clearSteps.stateEnteredAt = s.stateEnteredAt := rfl
@[simp] theorem State.clearSteps_cfg (s : State) : s.clearSteps.cfg = s.cfg := rfl
@[simp] theorem State.clearSteps_input (s : State) : s.clearSteps.input = s.input := rfl
@[simp] theorem State.clearSteps_response (s : State) : s.clearSteps.response = s.response := rfl

/-! ## clearGesture -/

@[simp] theorem State.clearGesture_state (s : State) : s.clearGesture.state = .idle := rfl
@[simp] theorem State.clearGesture_clickCount (s : State) : s.clearGesture.clickCount = 0#8 := rfl
@[simp] theorem State.clearGesture_stepCount (s : State) : s.clearGesture.stepCount = 0#8 := rfl
@[simp] theorem State.clearGesture_stableLevel (s : State) : s.clearGesture.stableLevel = s.stableLevel := rfl
@[simp] theorem State.clearGesture_dbCandidate (s : State) : s.clearGesture.dbCandidate = s.dbCandidate := rfl
@[simp] theorem State.clearGesture_dbPending (s : State) : s.clearGesture.dbPending = s.dbPending := rfl
@[simp] theorem State.clearGesture_dbTimestamp (s : State) : s.clearGesture.dbTimestamp = s.dbTimestamp := rfl
@[simp] theorem State.clearGesture_stateEnteredAt (s : State) : s.clearGesture.stateEnteredAt = s.stateEnteredAt := rfl
@[simp] theorem State.clearGesture_cfg (s : State) : s.clearGesture.cfg = s.cfg := rfl
@[simp] theorem State.clearGesture_input (s : State) : s.clearGesture.input = s.input := rfl
@[simp] theorem State.clearGesture_response (s : State) : s.clearGesture.response = s.response := rfl

/-! ## powerOnReset -/

@[simp] theorem State.powerOnReset_state (s : State) : s.powerOnReset.state = .idle := rfl
@[simp] theorem State.powerOnReset_clickCount (s : State) : s.powerOnReset.clickCount = 0#8 := rfl
@[simp] theorem State.powerOnReset_stepCount (s : State) : s.powerOnReset.stepCount = 0#8 := rfl
@[simp] theorem State.powerOnReset_stableLevel (s : State) : s.powerOnReset.stableLevel = false := rfl
@[simp] theorem State.powerOnReset_dbCandidate (s : State) : s.powerOnReset.dbCandidate = false := rfl
@[simp] theorem State.powerOnReset_dbPending (s : State) : s.powerOnReset.dbPending = false := rfl
@[simp] theorem State.powerOnReset_dbTimestamp (s : State) : s.powerOnReset.dbTimestamp = 0#32 := rfl
@[simp] theorem State.powerOnReset_stateEnteredAt (s : State) : s.powerOnReset.stateEnteredAt = 0#32 := rfl
@[simp] theorem State.powerOnReset_cfg (s : State) : s.powerOnReset.cfg = s.cfg := rfl
@[simp] theorem State.powerOnReset_input (s : State) : s.powerOnReset.input = s.input := rfl
@[simp] theorem State.powerOnReset_response (s : State) : s.powerOnReset.response = none := rfl

/-! ## deliver -/

@[simp] theorem State.deliver_state (cs : List Command) (s : State) : (s.deliver cs).state = s.state := rfl
@[simp] theorem State.deliver_clickCount (cs : List Command) (s : State) : (s.deliver cs).clickCount = s.clickCount := rfl
@[simp] theorem State.deliver_stepCount (cs : List Command) (s : State) : (s.deliver cs).stepCount = s.stepCount := rfl
@[simp] theorem State.deliver_stableLevel (cs : List Command) (s : State) : (s.deliver cs).stableLevel = s.stableLevel := rfl
@[simp] theorem State.deliver_dbCandidate (cs : List Command) (s : State) : (s.deliver cs).dbCandidate = s.dbCandidate := rfl
@[simp] theorem State.deliver_dbPending (cs : List Command) (s : State) : (s.deliver cs).dbPending = s.dbPending := rfl
@[simp] theorem State.deliver_dbTimestamp (cs : List Command) (s : State) : (s.deliver cs).dbTimestamp = s.dbTimestamp := rfl
@[simp] theorem State.deliver_stateEnteredAt (cs : List Command) (s : State) : (s.deliver cs).stateEnteredAt = s.stateEnteredAt := rfl
@[simp] theorem State.deliver_cfg (cs : List Command) (s : State) : (s.deliver cs).cfg = s.cfg := rfl
@[simp] theorem State.deliver_input (cs : List Command) (s : State) : (s.deliver cs).input = s.input ++ cs.map Input.command := rfl
@[simp] theorem State.deliver_response (cs : List Command) (s : State) : (s.deliver cs).response = s.response := rfl

/-! ## assertReset -/

@[simp] theorem State.assertReset_state (s : State) : s.assertReset.state = s.state := rfl
@[simp] theorem State.assertReset_clickCount (s : State) : s.assertReset.clickCount = s.clickCount := rfl
@[simp] theorem State.assertReset_stepCount (s : State) : s.assertReset.stepCount = s.stepCount := rfl
@[simp] theorem State.assertReset_stableLevel (s : State) : s.assertReset.stableLevel = s.stableLevel := rfl
@[simp] theorem State.assertReset_dbCandidate (s : State) : s.assertReset.dbCandidate = s.dbCandidate := rfl
@[simp] theorem State.assertReset_dbPending (s : State) : s.assertReset.dbPending = s.dbPending := rfl
@[simp] theorem State.assertReset_dbTimestamp (s : State) : s.assertReset.dbTimestamp = s.dbTimestamp := rfl
@[simp] theorem State.assertReset_stateEnteredAt (s : State) : s.assertReset.stateEnteredAt = s.stateEnteredAt := rfl
@[simp] theorem State.assertReset_cfg (s : State) : s.assertReset.cfg = s.cfg := rfl
@[simp] theorem State.assertReset_input (s : State) : s.assertReset.input = s.input ++ [Input.resetInput] := rfl
@[simp] theorem State.assertReset_response (s : State) : s.assertReset.response = s.response := rfl

/-! ## placeCommand -/

@[simp] theorem State.placeCommand_state (c : Command) (s : State) : (s.placeCommand c).state = s.state := rfl
@[simp] theorem State.placeCommand_clickCount (c : Command) (s : State) : (s.placeCommand c).clickCount = s.clickCount := rfl
@[simp] theorem State.placeCommand_stepCount (c : Command) (s : State) : (s.placeCommand c).stepCount = s.stepCount := rfl
@[simp] theorem State.placeCommand_stableLevel (c : Command) (s : State) : (s.placeCommand c).stableLevel = s.stableLevel := rfl
@[simp] theorem State.placeCommand_dbCandidate (c : Command) (s : State) : (s.placeCommand c).dbCandidate = s.dbCandidate := rfl
@[simp] theorem State.placeCommand_dbPending (c : Command) (s : State) : (s.placeCommand c).dbPending = s.dbPending := rfl
@[simp] theorem State.placeCommand_dbTimestamp (c : Command) (s : State) : (s.placeCommand c).dbTimestamp = s.dbTimestamp := rfl
@[simp] theorem State.placeCommand_stateEnteredAt (c : Command) (s : State) : (s.placeCommand c).stateEnteredAt = s.stateEnteredAt := rfl
@[simp] theorem State.placeCommand_cfg (c : Command) (s : State) : (s.placeCommand c).cfg = s.cfg := rfl
@[simp] theorem State.placeCommand_input (c : Command) (s : State) : (s.placeCommand c).input = Input.command c :: s.input := rfl
@[simp] theorem State.placeCommand_response (c : Command) (s : State) : (s.placeCommand c).response = s.response := rfl

/-! ## startSettleTimer -/

theorem State.startSettleTimer_running (now : Word) (s : State) (h : s.dbPending = true) :
    s.startSettleTimer now = s := by
  simp [State.startSettleTimer, h]

theorem State.startSettleTimer_settled (now : Word) (s : State) (h : s.dbPending = false) :
    s.startSettleTimer now = { s with dbTimestamp := now, dbPending := true } := by
  simp [State.startSettleTimer, h]

@[simp] theorem State.startSettleTimer_state (now : Word) (s : State) :
    (s.startSettleTimer now).state = s.state := by
  cases h : s.dbPending <;> simp [State.startSettleTimer, h]

@[simp] theorem State.startSettleTimer_clickCount (now : Word) (s : State) :
    (s.startSettleTimer now).clickCount = s.clickCount := by
  cases h : s.dbPending <;> simp [State.startSettleTimer, h]

@[simp] theorem State.startSettleTimer_stepCount (now : Word) (s : State) :
    (s.startSettleTimer now).stepCount = s.stepCount := by
  cases h : s.dbPending <;> simp [State.startSettleTimer, h]

@[simp] theorem State.startSettleTimer_stableLevel (now : Word) (s : State) :
    (s.startSettleTimer now).stableLevel = s.stableLevel := by
  cases h : s.dbPending <;> simp [State.startSettleTimer, h]

@[simp] theorem State.startSettleTimer_dbCandidate (now : Word) (s : State) :
    (s.startSettleTimer now).dbCandidate = s.dbCandidate := by
  cases h : s.dbPending <;> simp [State.startSettleTimer, h]

@[simp] theorem State.startSettleTimer_dbPending (now : Word) (s : State) :
    (s.startSettleTimer now).dbPending = true := by
  cases h : s.dbPending <;> simp [State.startSettleTimer, h]

@[simp] theorem State.startSettleTimer_dbTimestamp (now : Word) (s : State) :
    (s.startSettleTimer now).dbTimestamp = if s.dbPending then s.dbTimestamp else now := by
  cases h : s.dbPending <;> simp [State.startSettleTimer, h]

@[simp] theorem State.startSettleTimer_stateEnteredAt (now : Word) (s : State) :
    (s.startSettleTimer now).stateEnteredAt = s.stateEnteredAt := by
  cases h : s.dbPending <;> simp [State.startSettleTimer, h]

@[simp] theorem State.startSettleTimer_cfg (now : Word) (s : State) :
    (s.startSettleTimer now).cfg = s.cfg := by
  cases h : s.dbPending <;> simp [State.startSettleTimer, h]

@[simp] theorem State.startSettleTimer_input (now : Word) (s : State) :
    (s.startSettleTimer now).input = s.input := by
  cases h : s.dbPending <;> simp [State.startSettleTimer, h]

@[simp] theorem State.startSettleTimer_response (now : Word) (s : State) :
    (s.startSettleTimer now).response = s.response := by
  cases h : s.dbPending <;> simp [State.startSettleTimer, h]

end Sys2Proof.Machine
end

