-- ==== Sys2Proof/Laws/Ops.lean ====
section
/-! SUPPORT. For each shared operation one lemma that says everything it can do; later proofs cite these and do not unfold
the operation. -/

namespace Sys2Proof.Machine

/-! ## The debounce filter -/

/-- When the running settle timer was started, seen from a differing sample at `now`. -/
def settleStart (now : Word) (s : State) : Word := if s.dbPending then s.dbTimestamp else now

theorem debounce_of_eq (raw : Level) (now : Word) (s : State) (h : raw = s.stableLevel) :
    debounce raw now s = { s with dbCandidate := raw, dbPending := false } := by
  simp [debounce, h, State.clearPending]

theorem debounce_of_ne (raw : Level) (now : Word) (s : State) (h : raw ≠ s.stableLevel) :
    debounce raw now s =
      if s.cfg.debounceMs.toNat ≤ (now - settleStart now s).toNat then
        { s with stableLevel := raw, dbCandidate := raw, dbPending := false, dbTimestamp := settleStart now s }
      else
        { s with dbCandidate := raw, dbPending := true, dbTimestamp := settleStart now s } := by
  cases hp : s.dbPending <;>
    simp [debounce, h, settleStart, hp, State.startSettleTimer, State.noteCandidate, State.commitLevel, reached, elapsed,
      BitVec.le_def]

/-- Everything one sample of the filter can do (R100). -/
theorem debounce_cases (raw : Level) (now : Word) (s : State) :
    (raw = s.stableLevel ∧ debounce raw now s = { s with dbCandidate := raw, dbPending := false }) ∨
    (raw ≠ s.stableLevel ∧ s.cfg.debounceMs.toNat ≤ (now - settleStart now s).toNat ∧
      debounce raw now s =
        { s with stableLevel := raw, dbCandidate := raw, dbPending := false, dbTimestamp := settleStart now s }) ∨
    (raw ≠ s.stableLevel ∧ (now - settleStart now s).toNat < s.cfg.debounceMs.toNat ∧
      debounce raw now s = { s with dbCandidate := raw, dbPending := true, dbTimestamp := settleStart now s }) := by
  by_cases h : raw = s.stableLevel
  · exact .inl ⟨h, debounce_of_eq raw now s h⟩
  · rw [debounce_of_ne raw now s h]
    split
    · exact .inr (.inl ⟨h, ‹_›, rfl⟩)
    · exact .inr (.inr ⟨h, by omega, rfl⟩)

/-- The filter does not read the response (R33). -/
theorem debounce_respond (raw : Level) (now r : Word) (s : State) :
    debounce raw now (s.respond r) = (debounce raw now s).respond r := by
  by_cases h : raw = s.stableLevel
  · rw [debounce_of_eq raw now s h, debounce_of_eq raw now (s.respond r) h]; rfl
  · have hs : settleStart now (s.respond r) = settleStart now s := rfl
    rw [debounce_of_ne raw now s h, debounce_of_ne raw now (s.respond r) h, hs, State.respond_cfg]
    split <;> rfl

/-- The filter leaves the gesture machine, the thresholds, the inputs and the response alone (R106). -/
theorem debounce_frame (raw : Level) (now : Word) (s : State) :
    (debounce raw now s).state = s.state ∧ (debounce raw now s).clickCount = s.clickCount ∧
    (debounce raw now s).stepCount = s.stepCount ∧ (debounce raw now s).stateEnteredAt = s.stateEnteredAt ∧
    (debounce raw now s).cfg = s.cfg ∧ (debounce raw now s).input = s.input ∧
    (debounce raw now s).response = s.response := by
  obtain ⟨-, h⟩ | ⟨-, -, h⟩ | ⟨-, -, h⟩ := debounce_cases raw now s <;> simp [h]

@[simp] theorem debounce_state (raw : Level) (now : Word) (s : State) :
    (debounce raw now s).state = s.state := (debounce_frame raw now s).1

@[simp] theorem debounce_clickCount (raw : Level) (now : Word) (s : State) :
    (debounce raw now s).clickCount = s.clickCount := (debounce_frame raw now s).2.1

@[simp] theorem debounce_stepCount (raw : Level) (now : Word) (s : State) :
    (debounce raw now s).stepCount = s.stepCount := (debounce_frame raw now s).2.2.1

@[simp] theorem debounce_stateEnteredAt (raw : Level) (now : Word) (s : State) :
    (debounce raw now s).stateEnteredAt = s.stateEnteredAt := (debounce_frame raw now s).2.2.2.1

@[simp] theorem debounce_cfg (raw : Level) (now : Word) (s : State) :
    (debounce raw now s).cfg = s.cfg := (debounce_frame raw now s).2.2.2.2.1

@[simp] theorem debounce_input (raw : Level) (now : Word) (s : State) :
    (debounce raw now s).input = s.input := (debounce_frame raw now s).2.2.2.2.2.1

@[simp] theorem debounce_response (raw : Level) (now : Word) (s : State) :
    (debounce raw now s).response = s.response := (debounce_frame raw now s).2.2.2.2.2.2

/-- The filter does not read what waits at the port. -/
theorem debounce_withInput (raw : Level) (now : Word) (s : State) (q : List Input) :
    debounce raw now { s with input := q } = { debounce raw now s with input := q } := by
  by_cases h : raw = s.stableLevel
  · rw [debounce_of_eq raw now s h, debounce_of_eq raw now { s with input := q } h]
  · have hs : settleStart now { s with input := q } = settleStart now s := rfl
    rw [debounce_of_ne raw now s h, debounce_of_ne raw now { s with input := q } h, hs]
    split <;> rfl

/-! ## The gesture machine -/

/-- The machine does not read the response (R33). -/
theorem poll_respond (level : Level) (now r : Word) (s : State) :
    poll level now (s.respond r) = (poll level now s).respond r := by
  have key : ∀ (q : Option Response) (u : State),
      poll level now { u with response := q } = { poll level now u with response := q } := by
    intro q u
    cases u with
    | mk state _ _ _ _ _ _ _ _ _ _ =>
      cases state <;>
        simp only [poll, State.enter, State.resetTimer, State.countClick, State.clearClicks, State.countStep,
          State.clearSteps] <;>
        (try split) <;> (try split) <;> rfl
  exact key _ s

/-- Everything one evaluation can write: four registers and nothing else (R142). -/
theorem poll_eq_gesture (level : Level) (now : Word) (s : State) :
    poll level now s = { s with
      state := (poll level now s).state, clickCount := (poll level now s).clickCount,
      stepCount := (poll level now s).stepCount, stateEnteredAt := (poll level now s).stateEnteredAt } := by
  cases s with
  | mk state _ _ _ _ _ _ _ _ _ _ =>
    cases state <;>
      simp only [poll, State.enter, State.resetTimer, State.countClick, State.clearClicks, State.countStep,
        State.clearSteps] <;>
      (try split) <;> (try split) <;> rfl

@[simp] theorem poll_stableLevel (level : Level) (now : Word) (s : State) :
    (poll level now s).stableLevel = s.stableLevel := by rw [poll_eq_gesture]

@[simp] theorem poll_dbCandidate (level : Level) (now : Word) (s : State) :
    (poll level now s).dbCandidate = s.dbCandidate := by rw [poll_eq_gesture]

@[simp] theorem poll_dbPending (level : Level) (now : Word) (s : State) :
    (poll level now s).dbPending = s.dbPending := by rw [poll_eq_gesture]

@[simp] theorem poll_dbTimestamp (level : Level) (now : Word) (s : State) :
    (poll level now s).dbTimestamp = s.dbTimestamp := by rw [poll_eq_gesture]

@[simp] theorem poll_cfg (level : Level) (now : Word) (s : State) :
    (poll level now s).cfg = s.cfg := by rw [poll_eq_gesture]

@[simp] theorem poll_input (level : Level) (now : Word) (s : State) :
    (poll level now s).input = s.input := by rw [poll_eq_gesture]

@[simp] theorem poll_response (level : Level) (now : Word) (s : State) :
    (poll level now s).response = s.response := by rw [poll_eq_gesture]

/-- The state `poll` answers, by the state it starts in (R120): what the rows write besides `state` is in
`poll_counts`. -/
theorem poll_state (level : Level) (now : Word) (s : State) :
    (poll level now s).state =
      match s.state with
      | .idle => if level then .press else .idle
      | .press => .waitHold
      | .waitHold => if !level then .click else if reached s.cfg.holdMs (elapsed now s.stateEnteredAt) then .hold else .waitHold
      | .hold => .waitStep
      | .waitStep =>
        if !level then .releaseHold else if reached s.cfg.stepMs (elapsed now s.stateEnteredAt) then .step else .waitStep
      | .step => .waitNextStep
      | .waitNextStep =>
        if !level then .releaseStep
        else if reached s.cfg.stepPeriodMs (elapsed now s.stateEnteredAt) then .step else .waitNextStep
      | .releaseHold => .release
      | .releaseStep => .release
      | .click => .release
      | .release => if s.clickCount = 0#8 then .waitTimeout else .waitClicks
      | .waitClicks =>
        if level then .press
        else if reached s.cfg.clickWindowMs (elapsed now s.stateEnteredAt) then .clicks else .waitClicks
      | .clicks => .waitTimeout
      | .waitTimeout =>
        if level then .press
        else if reached s.cfg.timeoutMs (elapsed now s.stateEnteredAt) then .timeout else .waitTimeout
      | .timeout => .idle := by
  cases h : s.state <;>
    simp only [poll, h, State.enter, State.resetTimer, State.countClick, State.clearClicks, State.countStep,
      State.clearSteps] <;>
    (try split) <;> (try split) <;> simp_all

/-- The counters and the timestamp `poll` answers, by the move it makes. -/
theorem poll_counts (level : Level) (now : Word) (s : State) :
    (poll level now s).clickCount =
      (match s.state with
       | .waitHold => if level then s.clickCount else satInc8 s.clickCount
       | .releaseHold | .releaseStep | .clicks => 0#8
       | _ => s.clickCount) ∧
    (poll level now s).stepCount =
      (match s.state with
       | .waitNextStep => if (poll level now s).state = .step then satInc8 s.stepCount else s.stepCount
       | .release => 0#8
       | _ => s.stepCount) ∧
    (poll level now s).stateEnteredAt =
      (match s.state, (poll level now s).state with
       | .press, _ | .release, _ | .waitHold, .hold | .waitStep, .step | .waitNextStep, .step | .waitClicks, .clicks => now
       | _, _ => s.stateEnteredAt) := by
  cases h : s.state <;>
    simp only [poll, h, State.enter, State.resetTimer, State.countClick, State.clearClicks, State.countStep,
      State.clearSteps] <;>
    (try split) <;> (try split) <;> simp_all

/-- The machine does not read what waits at the port. -/
theorem poll_withInput (level : Level) (now : Word) (s : State) (q : List Input) :
    poll level now { s with input := q } = { poll level now s with input := q } := by
  cases s with
  | mk state _ _ _ _ _ _ _ _ _ _ =>
    cases state <;>
      simp only [poll, State.enter, State.resetTimer, State.countClick, State.clearClicks, State.countStep,
        State.clearSteps] <;>
      (try split) <;> (try split) <;> rfl

/-! ## Commands -/

/-- Every command answers a next state with status OK (R200, R250). -/
theorem exec_next (i : Instr) (s : State) : ∃ t r, exec i s = .next t ∧ t.response = some ⟨0#2, r⟩ := by
  cases i <;> exact ⟨_, _, rfl, rfl⟩

/-- A command neither reads nor writes what waits at the port. -/
theorem exec_withInput (i : Instr) (s t : State) (q : List Input) (h : exec i s = .next t) :
    exec i { s with input := q } = .next { t with input := q } := by
  cases i <;> cases h <;> first
    | rfl
    | simp only [exec, execTick, execDebounce, execPoll, debounce_withInput, poll_withInput]; rfl

/-- The step at a command that decodes. -/
theorem runCommand_ok (c : Command) (i : Instr) (s : State) (h : decode c = .ok i) : runCommand c s = exec i s := by
  simp [runCommand, h]

/-- The step at a command that is turned away. -/
theorem runCommand_error (c : Command) (e : CommandError) (s : State) (h : decode c = .error e) :
    runCommand c s = .next (s.raiseCommandError e) := by
  simp [runCommand, h]

/-- Everything a step can do: wait, take power-on reset, turn a command away, or run one. -/
theorem step_cases (s : State) :
    (s.input = [] ∧ step s = .next s) ∨
    (∃ rest, s.input = .resetInput :: rest ∧ step s = .next { s with input := rest }.powerOnReset) ∨
    (∃ c rest e, s.input = .command c :: rest ∧ decode c = .error e ∧
      step s = .next ({ s with input := rest }.raiseCommandError e)) ∨
    (∃ c rest i, s.input = .command c :: rest ∧ decode c = .ok i ∧ step s = exec i { s with input := rest }) := by
  cases h : s.input with
  | nil => exact .inl ⟨rfl, by simp [step, serve, State.takeInput, h]⟩
  | cons x rest =>
    cases x with
    | resetInput => exact .inr (.inl ⟨rest, rfl, by simp [step, serve, State.takeInput, h, runInput]⟩)
    | command c =>
      have hs : step s = runCommand c { s with input := rest } := by
        simp [step, serve, State.takeInput, h, runInput]
      cases hd : decode c with
      | error e => exact .inr (.inr (.inl ⟨c, rest, e, rfl, hd, hs.trans (runCommand_error c e _ hd)⟩))
      | ok i => exact .inr (.inr (.inr ⟨c, rest, i, rfl, hd, hs.trans (runCommand_ok c i _ hd)⟩))

end Sys2Proof.Machine
end

