-- ==== Sys2Proof/Laws/PerInstr.lean ====
section
/-! SUPPORT. A family of lemmas about every command as syntax: the fields its encoding holds. -/

namespace Sys2Proof

/-! ## The fields of a control word -/

/-- Every bit of a control word (R71). -/
theorem controlWord_getLsbD (op : BitVec 5) (l : Level) (nv : Bool) (n : Byte) (i : Nat) :
    (controlWord op l nv n).getLsbD i =
      if i < 5 then op.getLsbD i else if i < 8 then false else if i = 8 then l else if i = 9 then nv
      else if i < 16 then false else n.getLsbD (i - 16) := by
  show BitVec.getLsbD (w := 8 + 8 + 6 + 1 + 1 + 3 + 5)
    (0#8 ++ n ++ 0#6 ++ BitVec.ofBool nv ++ BitVec.ofBool l ++ 0#3 ++ op) i = _
  simp only [BitVec.getLsbD_append, BitVec.getLsbD_zero, BitVec.getLsbD_ofBool]
  by_cases h5 : i < 5
  · simp [h5]
  by_cases h8 : i < 8
  · have : i - 5 < 3 := by omega
    simp [h5, h8, this]
  by_cases e8 : i = 8
  · simp [e8]
  by_cases e9 : i = 9
  · simp [e9]
  by_cases h16 : i < 16
  · have h3 : ¬ i - 5 < 3 := by omega
    have h1 : ¬ i - 5 - 3 < 1 := by omega
    have h1' : ¬ i - 5 - 3 - 1 < 1 := by omega
    have h6 : i - 5 - 3 - 1 - 1 < 6 := by omega
    simp [h5, h8, e8, e9, h16, h3, h1, h1', h6]
  · have h3 : ¬ i - 5 < 3 := by omega
    have h1 : ¬ i - 5 - 3 < 1 := by omega
    have h1' : ¬ i - 5 - 3 - 1 < 1 := by omega
    have h6 : ¬ i - 5 - 3 - 1 - 1 < 6 := by omega
    have hn : i - 5 - 3 - 1 - 1 - 6 = i - 16 := by omega
    simp only [h5, h8, e8, e9, h16, h3, h1, h1', h6, hn, if_false]
    by_cases h24 : i - 16 < 8
    · simp [h24]
    · have : 8 ≤ i - 16 := by omega
      simp [h24, BitVec.getLsbD_of_ge n _ this]

theorem controlWord_op (op : BitVec 5) (l : Level) (nv : Bool) (n : Byte) :
    (controlWord op l nv n).extractLsb' 0 5 = op := by
  apply BitVec.eq_of_getLsbD_eq
  intro i hi
  simp only [BitVec.getLsbD_extractLsb', controlWord_getLsbD, Nat.zero_add, hi, decide_true, Bool.true_and, if_true]

theorem controlWord_level (op : BitVec 5) (l : Level) (nv : Bool) (n : Byte) :
    (controlWord op l nv n).getLsbD 8 = l := by
  rw [controlWord_getLsbD]; rfl

theorem controlWord_qualValid (op : BitVec 5) (l : Level) (nv : Bool) (n : Byte) :
    (controlWord op l nv n).getLsbD 9 = nv := by
  rw [controlWord_getLsbD]; rfl

theorem controlWord_count (op : BitVec 5) (l : Level) (nv : Bool) (n : Byte) :
    (controlWord op l nv n).extractLsb' 16 8 = n := by
  apply BitVec.eq_of_getLsbD_eq
  intro i hi
  have h1 : ¬ 16 + i < 5 := by omega
  have h2 : ¬ 16 + i < 8 := by omega
  have h3 : ¬ 16 + i = 8 := by omega
  have h4 : ¬ 16 + i = 9 := by omega
  have h5 : ¬ 16 + i < 16 := by omega
  have h6 : 16 + i - 16 = i := by omega
  simp only [BitVec.getLsbD_extractLsb', controlWord_getLsbD, hi, h1, h2, h3, h4, h5, h6, decide_true, Bool.true_and,
    if_false]

/-- The reserved bits of a control word are 0 (R71, R77). -/
theorem controlWord_reserved (op : BitVec 5) (l : Level) (nv : Bool) (n : Byte) :
    (controlWord op l nv n).extractLsb' 5 3 = 0#3 ∧ (controlWord op l nv n).extractLsb' 10 6 = 0#6 ∧
    (controlWord op l nv n).extractLsb' 24 8 = 0#8 := by
  refine ⟨?_, ?_, ?_⟩
  · apply BitVec.eq_of_getLsbD_eq
    intro i hi
    have h1 : ¬ 5 + i < 5 := by omega
    have h2 : 5 + i < 8 := by omega
    simp [BitVec.getLsbD_extractLsb', controlWord_getLsbD, h2]
  · apply BitVec.eq_of_getLsbD_eq
    intro i hi
    have h1 : ¬ 10 + i < 5 := by omega
    have h2 : ¬ 10 + i < 8 := by omega
    have h3 : ¬ 10 + i = 8 := by omega
    have h4 : ¬ 10 + i = 9 := by omega
    have h5 : 10 + i < 16 := by omega
    simp only [BitVec.getLsbD_extractLsb', controlWord_getLsbD, h1, h2, h3, h4, h5, if_true, if_false, Bool.and_false,
      BitVec.getLsbD_zero]
  · apply BitVec.eq_of_getLsbD_eq
    intro i hi
    have h1 : ¬ 24 + i < 5 := by omega
    have h2 : ¬ 24 + i < 8 := by omega
    have h3 : ¬ 24 + i = 8 := by omega
    have h4 : ¬ 24 + i = 9 := by omega
    have h5 : ¬ 24 + i < 16 := by omega
    have h6 : 8 ≤ 24 + i - 16 := by omega
    simp only [BitVec.getLsbD_extractLsb', controlWord_getLsbD, h1, h2, h3, h4, h5, if_false,
      BitVec.getLsbD_of_ge n _ h6, Bool.and_false, BitVec.getLsbD_zero]

theorem reservedBitSet_controlWord (op : BitVec 5) (l : Level) (nv : Bool) (n : Byte) (time arg : Word) :
    (Command.mk (controlWord op l nv n) time arg).reservedBitSet = false := by
  obtain ⟨h1, h2, h3⟩ := controlWord_reserved op l nv n
  simp [Command.reservedBitSet, h1, h2, h3]

/-! ## Every command -/

/-- The fields of a command's encoding: its opcode, the operands R74 gives it, and reserved bits that are 0. -/
def Laws.EncodedFields.Statement (i : Instr) : Prop :=
  (encode i).op = i.opcode ∧
  ((encode i).level, (encode i).qualValid, (encode i).count, (encode i).w1, (encode i).w2) = i.operands ∧
  (encode i).reservedBitSet = false

/-- The proof is the same for every command: the fields of a control word are what it was made from. -/
theorem encodedFields (i : Instr) : Laws.EncodedFields.Statement i := by
  refine ⟨?_, ?_, ?_⟩
  · exact controlWord_op _ _ _ _
  · simp only [Command.level, Command.qualValid, Command.count, encode, controlWord_level, controlWord_qualValid,
      controlWord_count]
  · exact reservedBitSet_controlWord _ _ _ _ _ _

theorem Laws.EncodedFields.nop : Laws.EncodedFields.Statement .nop := encodedFields _

theorem Laws.EncodedFields.tick (l : Level) (time : Word) : Laws.EncodedFields.Statement (.tick l time) := encodedFields _

theorem Laws.EncodedFields.debounce (l : Level) (time : Word) : Laws.EncodedFields.Statement (.debounce l time) := encodedFields _

theorem Laws.EncodedFields.poll (l : Level) (time : Word) : Laws.EncodedFields.Statement (.poll l time) := encodedFields _

theorem Laws.EncodedFields.reset : Laws.EncodedFields.Statement .reset := encodedFields _

theorem Laws.EncodedFields.getState : Laws.EncodedFields.Statement .getState := encodedFields _

theorem Laws.EncodedFields.getClicks : Laws.EncodedFields.Statement .getClicks := encodedFields _

theorem Laws.EncodedFields.getSteps : Laws.EncodedFields.Statement .getSteps := encodedFields _

theorem Laws.EncodedFields.getLevel : Laws.EncodedFields.Statement .getLevel := encodedFields _

theorem Laws.EncodedFields.getPressTime (time : Word) : Laws.EncodedFields.Statement (.getPressTime time) := encodedFields _

theorem Laws.EncodedFields.getHoldTime (time : Word) : Laws.EncodedFields.Statement (.getHoldTime time) := encodedFields _

theorem Laws.EncodedFields.getStepTime (time : Word) : Laws.EncodedFields.Statement (.getStepTime time) := encodedFields _

theorem Laws.EncodedFields.evPress (nv : Bool) (n : Byte) : Laws.EncodedFields.Statement (.evPress nv n) := encodedFields _

theorem Laws.EncodedFields.evClick (nv : Bool) (n : Byte) : Laws.EncodedFields.Statement (.evClick nv n) := encodedFields _

theorem Laws.EncodedFields.evHold (nv : Bool) (n : Byte) : Laws.EncodedFields.Statement (.evHold nv n) := encodedFields _

theorem Laws.EncodedFields.evReleaseHold (nv : Bool) (n : Byte) : Laws.EncodedFields.Statement (.evReleaseHold nv n) := encodedFields _

theorem Laws.EncodedFields.evStep (nv : Bool) (n : Byte) : Laws.EncodedFields.Statement (.evStep nv n) := encodedFields _

theorem Laws.EncodedFields.evReleaseStep (nv : Bool) (n : Byte) : Laws.EncodedFields.Statement (.evReleaseStep nv n) := encodedFields _

theorem Laws.EncodedFields.evRelease (nv : Bool) (n : Byte) : Laws.EncodedFields.Statement (.evRelease nv n) := encodedFields _

theorem Laws.EncodedFields.evHasClicks (nv : Bool) (n : Byte) : Laws.EncodedFields.Statement (.evHasClicks nv n) := encodedFields _

theorem Laws.EncodedFields.evTimeout (nv : Bool) (n : Byte) : Laws.EncodedFields.Statement (.evTimeout nv n) := encodedFields _

theorem Laws.EncodedFields.isEvent : Laws.EncodedFields.Statement .isEvent := encodedFields _

theorem Laws.EncodedFields.isPressing : Laws.EncodedFields.Statement .isPressing := encodedFields _

theorem Laws.EncodedFields.pressFor (time ms : Word) : Laws.EncodedFields.Statement (.pressFor time ms) := encodedFields _

theorem Laws.EncodedFields.holdFor (time ms : Word) : Laws.EncodedFields.Statement (.holdFor time ms) := encodedFields _

theorem Laws.EncodedFields.stepFor (time ms : Word) : Laws.EncodedFields.Statement (.stepFor time ms) := encodedFields _

end Sys2Proof
end

