-- ==== Sys2Proof/Tests/Slice0.lean ====
section
/-! SUPPORT. Tests of the model and a witness for every statement that has hypotheses. Expected values are those of
95_test_vectors.md (the vector's name stands in the docstring) and words written out from R71, R75 and R84. -/

namespace Sys2Proof.Tests

open Sys2Proof Sys2Proof.Machine

/-! ## Helpers -/

/-- The state an outcome goes on in. -/
def goesOn : Host.Outcome State Fault Refusal → Option State
  | .next t => some t
  | .fault _ => none
  | .refused _ => none

/-- The reset state with the gesture registers given. -/
def gesture (g : Gesture) (clicks steps : Byte) (entered : Word) : State :=
  { State.reset with state := g, clickCount := clicks, stepCount := steps, stateEnteredAt := entered }

/-- A state with the debounce registers given. -/
def filter (s : State) (level candidate pending : Bool) (since : Word) : State :=
  { s with stableLevel := level, dbCandidate := candidate, dbPending := pending, dbTimestamp := since }

/-- Whether a command, from `s`, answers OK with `result` and goes on in `t` but for the response. -/
def gives (i : Instr) (s : State) (result : Word) (t : State) : Bool :=
  goesOn (exec i s) == some { t with response := okResponse result }

/-- Whether a command, from `s`, answers OK with `result` and writes nothing. -/
def reads (i : Instr) (s : State) (result : Word) : Bool := gives i s result s

/-- What a word triple decodes to; none where it is turned away. -/
def decoded (w0 w1 w2 : Word) : Option Instr :=
  match decode ⟨w0, w1, w2⟩ with
  | .ok i => some i
  | .error _ => none

/-- The registers after `TICKP 10` from reset, where 95_test_vectors.md section 2.1 starts. -/
def afterTick : State := filter State.reset false true true 10#32

/-- Whether a step at a word triple answers `status` with result 0 and writes no register. -/
def turnedAway (status : BitVec 2) (w0 w1 w2 : Word) : Bool :=
  goesOn (step (afterTick.deliver [⟨w0, w1, w2⟩])) == some { afterTick with response := some ⟨status, 0#32⟩ }

/-! ## Well-formedness (R74) -/

theorem test_wellFormed_refuses_count_without_qualifier :
    [Instr.evPress false 1#8, .evClick false 1#8, .evHold false 1#8, .evReleaseHold false 1#8, .evStep false 1#8,
     .evReleaseStep false 1#8, .evRelease false 1#8, .evHasClicks false 255#8, .evTimeout false 128#8].all
      (fun i => !i.wellFormed) = true := by decide

theorem test_wellFormed_admits_the_others :
    [Instr.evPress true 0#8, .evPress true 255#8, .evPress false 0#8, .tick true 0xFFFFFFFF#32,
     .pressFor 0#32 0xFFFFFFFF#32, .nop].all Instr.wellFormed = true := by decide

/-! ## Decoding: words written out from R71, R75 and R84 -/

theorem test_decode_control :
    decoded 0b00000000000000000000000000000000#32 0#32 0#32 = some .nop ∧
    decoded 0b00000000000000000000000000000100#32 0#32 0#32 = some .reset := by decide

theorem test_decode_polling :
    decoded 0b00000000000000000000000000000001#32 0xFFFFFFFE#32 0#32 = some (.tick false 0xFFFFFFFE#32) ∧
    decoded 0b00000000000000000000000100000001#32 160#32 0#32 = some (.tick true 160#32) ∧
    decoded 0b00000000000000000000000000000010#32 100#32 0#32 = some (.debounce false 100#32) ∧
    decoded 0b00000000000000000000000100000010#32 100#32 0#32 = some (.debounce true 100#32) ∧
    decoded 0b00000000000000000000000000000011#32 360#32 0#32 = some (.poll false 360#32) ∧
    decoded 0b00000000000000000000000100000011#32 360#32 0#32 = some (.poll true 360#32) := by decide

theorem test_decode_reads :
    decoded 0b00000000000000000000000000001000#32 0#32 0#32 = some .getState ∧
    decoded 0b00000000000000000000000000001001#32 0#32 0#32 = some .getClicks ∧
    decoded 0b00000000000000000000000000001010#32 0#32 0#32 = some .getSteps ∧
    decoded 0b00000000000000000000000000001011#32 0#32 0#32 = some .getLevel ∧
    decoded 0b00000000000000000000000000001100#32 1380#32 0#32 = some (.getPressTime 1380#32) ∧
    decoded 0b00000000000000000000000000001101#32 1380#32 0#32 = some (.getHoldTime 1380#32) ∧
    decoded 0b00000000000000000000000000001110#32 1380#32 0#32 = some (.getStepTime 1380#32) := by decide

theorem test_decode_events :
    decoded 0b00000000000000000000000000010000#32 0#32 0#32 = some (.evPress false 0#8) ∧
    decoded 0b00000000000000000000000000010001#32 0#32 0#32 = some (.evClick false 0#8) ∧
    decoded 0b00000000000000000000000000010010#32 0#32 0#32 = some (.evHold false 0#8) ∧
    decoded 0b00000000000000000000000000010011#32 0#32 0#32 = some (.evReleaseHold false 0#8) ∧
    decoded 0b00000000000000000000000000010100#32 0#32 0#32 = some (.evStep false 0#8) ∧
    decoded 0b00000000000000000000000000010101#32 0#32 0#32 = some (.evReleaseStep false 0#8) ∧
    decoded 0b00000000000000000000000000010110#32 0#32 0#32 = some (.evRelease false 0#8) ∧
    decoded 0b00000000000000000000000000010111#32 0#32 0#32 = some (.evHasClicks false 0#8) ∧
    decoded 0b00000000000000000000000000011000#32 0#32 0#32 = some (.evTimeout false 0#8) ∧
    decoded 0b00000000000000000000000000011001#32 0#32 0#32 = some .isEvent ∧
    decoded 0b00000000000000000000000000011010#32 0#32 0#32 = some .isPressing := by decide

/-- R84: `EV_HAS_CLICKS #2` is 0x00020217; and N at 0 and 255 with NV = 1. -/
theorem test_decode_qualified :
    decoded 0x00020217#32 0#32 0#32 = some (.evHasClicks true 2#8) ∧
    decoded 0b00000000000000000000001000010000#32 0#32 0#32 = some (.evPress true 0#8) ∧
    decoded 0b00000000111111110000001000011000#32 0#32 0#32 = some (.evTimeout true 255#8) := by decide

theorem test_decode_predicates :
    decoded 0b00000000000000000000000000011100#32 300#32 130#32 = some (.pressFor 300#32 130#32) ∧
    decoded 0b00000000000000000000000000011101#32 1390#32 200#32 = some (.holdFor 1390#32 200#32) ∧
    decoded 0b00000000000000000000000000011110#32 2690#32 1120#32 = some (.stepFor 2690#32 1120#32) := by decide

/-- E1 to E8. -/
theorem test_illegal_opcode :
    turnedAway 1#2 0x00000005#32 0#32 0#32 ∧ turnedAway 1#2 0x00000006#32 0#32 0#32 ∧
    turnedAway 1#2 0x00000007#32 0#32 0#32 ∧ turnedAway 1#2 0x0000000F#32 0#32 0#32 ∧
    turnedAway 1#2 0x0000001B#32 0#32 0#32 ∧ turnedAway 1#2 0x0000001F#32 0#32 0#32 ∧
    turnedAway 1#2 0xFF00021F#32 1#32 1#32 ∧ turnedAway 1#2 0x0000021B#32 0#32 0#32 := by decide

/-- E9 to E11. -/
theorem test_qualifier_not_allowed :
    turnedAway 3#2 0x00000204#32 0#32 0#32 ∧ turnedAway 3#2 0x00000301#32 5#32 0#32 ∧
    turnedAway 3#2 0x01000203#32 0#32 0#32 := by decide

/-- E12 to E23. -/
theorem test_reserved_field :
    turnedAway 2#2 0x00000104#32 0#32 0#32 ∧ turnedAway 2#2 0x00000108#32 0#32 0#32 ∧
    turnedAway 2#2 0x00000110#32 0#32 0#32 ∧ turnedAway 2#2 0x00000020#32 0#32 0#32 ∧
    turnedAway 2#2 0x00000400#32 0#32 0#32 ∧ turnedAway 2#2 0x80000000#32 0#32 0#32 ∧
    turnedAway 2#2 0x00010010#32 0#32 0#32 ∧ turnedAway 2#2 0x00010008#32 0#32 0#32 ∧
    turnedAway 2#2 0x00000008#32 1#32 0#32 ∧ turnedAway 2#2 0x00000004#32 0#32 1#32 ∧
    turnedAway 2#2 0x00000001#32 0#32 5#32 ∧ turnedAway 2#2 0x0000000C#32 0#32 7#32 := by decide

/-! ## The byte transport, the table's numbering and the assembler -/

/-- R52: each word little-endian; `TICK 1, 160`, then `EV_HAS_CLICKS #2`, then eleven bytes that deliver nothing. -/
theorem test_transport :
    commandsOfBytes
      ([0x01#8, 0x01#8, 0#8, 0#8, 0xA0#8, 0#8, 0#8, 0#8, 0#8, 0#8, 0#8, 0#8,
        0x17#8, 0x02#8, 0x02#8, 0#8, 0#8, 0#8, 0#8, 0#8, 0#8, 0#8, 0#8, 0#8] ++ List.replicate 11 0xFF#8) =
      [⟨0x00000101#32, 160#32, 0#32⟩, ⟨0x00020217#32, 0#32, 0#32⟩] := by decide

theorem test_response_bytes :
    Response.bytes ⟨2#2, 0x12345678#32⟩ = [0x78#8, 0x56#8, 0x34#8, 0x12#8, 0x02#8] := by decide

theorem test_table_word :
    decodeTableWord 96 (0x0000001E + 0x00000A82 * 2 ^ 32 + 0x00000460 * 2 ^ 64) = some (.stepFor 2690#32 1120#32) ∧
    decodeTableWord 32 0x00020217 = some (.evHasClicks true 2#8) ∧ decodeTableWord 32 0x00000005 = none := by decide

theorem test_step_runs_placed_word :
    goesOn (step (State.reset.withFetchWord 64 (0x00000101 + 0x00000064 * 2 ^ 32))) =
      goesOn (exec (.tick true 100#32) State.reset) := by decide

/-- R82, R83. -/
theorem test_assembler :
    (assembleLine "TICK 1, 160").map encode = some ⟨0x00000101#32, 0x000000A0#32, 0#32⟩ ∧
    assembleLine "TICKP 0xFFFFFC7C" = some (.tick true 0xFFFFFC7C#32) ∧
    assembleLine "TICKR 320" = some (.tick false 320#32) ∧
    (assembleLine "EV_HAS_CLICKS #2").map encode = some ⟨0x00020217#32, 0#32, 0#32⟩ ∧
    assembleLine "EV_PRESS #256" = none ∧ assembleLine "STEP_FOR 2690, 1120" = some (.stepFor 2690#32 1120#32) := by
  decide

/-! ## Arithmetic and reset -/

/-- R17 and R18. -/
theorem test_elapsed_and_saturation :
    elapsed 0x384#32 0xFFFFFF9C#32 = 1000#32 ∧ satInc8 254#8 = 255#8 ∧ satInc8 255#8 = 255#8 := by decide

theorem test_power_on_reset :
    goesOn (step { gesture .step 2#8 3#8 7#32 with stableLevel := true, dbPending := true, input := [.resetInput] }) =
      some State.reset := by decide

/-! ## DEBOUNCE -/

/-- DB8 to DB10, the last sample of each: just short of the threshold and just there, across the wrap, and a threshold of 0. -/
theorem test_debounce_threshold :
    gives (.debounce true 0x21#32) (filter State.reset false true true 0xFFFFFFF0#32) 0#32
      (filter State.reset false true true 0xFFFFFFF0#32) ∧
    gives (.debounce true 0x22#32) (filter State.reset false true true 0xFFFFFFF0#32) 1#32
      (filter State.reset true true false 0xFFFFFFF0#32) ∧
    gives (.debounce true 5#32) { State.reset with cfg := { Cfg.defaults with debounceMs := 0#32 } } 1#32
      (filter { State.reset with cfg := { Cfg.defaults with debounceMs := 0#32 } } true true false 5#32) := by decide

/-- DB11 to DB14: an earlier time, the stable level again, the gesture registers kept, the largest threshold. -/
theorem test_debounce_corners :
    gives (.debounce true 99#32) (filter State.reset false true true 100#32) 1#32
      (filter State.reset true true false 100#32) ∧
    gives (.debounce true 510#32) (filter State.reset true false true 500#32) 1#32
      (filter State.reset true true false 500#32) ∧
    gives (.debounce false 300#32) (filter (gesture .waitHold 0#8 0#8 180#32) true true false 0#32) 1#32
      (filter (gesture .waitHold 0#8 0#8 180#32) true false true 300#32) ∧
    gives (.debounce true 0xFFFFFFFE#32)
      (filter { State.reset with cfg := { Cfg.defaults with debounceMs := 0xFFFFFFFF#32 } } false true true 0#32) 0#32
      (filter { State.reset with cfg := { Cfg.defaults with debounceMs := 0xFFFFFFFF#32 } } false true true 0#32) := by
  decide

/-! ## POLL -/

/-- PO1 to PO16. -/
theorem test_poll_before_step :
    gives (.poll true 160#32) (gesture .idle 0#8 0#8 0#32) 1#32 (gesture .press 0#8 0#8 0#32) ∧
    gives (.poll false 5000#32) (gesture .idle 0#8 0#8 7#32) 0#32 (gesture .idle 0#8 0#8 7#32) ∧
    gives (.poll true 180#32) (gesture .press 0#8 0#8 7#32) 1#32 (gesture .waitHold 0#8 0#8 180#32) ∧
    gives (.poll false 180#32) (gesture .press 0#8 0#8 0#32) 1#32 (gesture .waitHold 0#8 0#8 180#32) ∧
    gives (.poll false 360#32) (gesture .waitHold 0#8 0#8 180#32) 1#32 (gesture .click 1#8 0#8 180#32) ∧
    gives (.poll false 360#32) (gesture .waitHold 255#8 0#8 180#32) 1#32 (gesture .click 255#8 0#8 180#32) ∧
    gives (.poll true 1179#32) (gesture .waitHold 0#8 0#8 180#32) 0#32 (gesture .waitHold 0#8 0#8 180#32) ∧
    gives (.poll true 1180#32) (gesture .waitHold 0#8 0#8 180#32) 1#32 (gesture .hold 0#8 0#8 1180#32) ∧
    gives (.poll false 5000#32) (gesture .waitHold 0#8 0#8 180#32) 1#32 (gesture .click 1#8 0#8 180#32) ∧
    gives (.poll false 1200#32) (gesture .hold 0#8 0#8 1180#32) 1#32 (gesture .waitStep 0#8 0#8 1180#32) ∧
    gives (.poll false 1460#32) (gesture .waitStep 0#8 0#8 1180#32) 1#32 (gesture .releaseHold 0#8 0#8 1180#32) ∧
    gives (.poll true 1579#32) (gesture .waitStep 0#8 0#8 1180#32) 0#32 (gesture .waitStep 0#8 0#8 1180#32) ∧
    gives (.poll true 1580#32) (gesture .waitStep 0#8 0#8 1180#32) 1#32 (gesture .step 0#8 0#8 1580#32) ∧
    gives (.poll true 1600#32) (gesture .step 0#8 0#8 1580#32) 1#32 (gesture .waitNextStep 0#8 0#8 1580#32) := by decide

/-- PO17 to PO35. -/
theorem test_poll_from_waitNextStep_on :
    gives (.poll false 1860#32) (gesture .waitNextStep 0#8 2#8 1580#32) 1#32 (gesture .releaseStep 0#8 2#8 1580#32) ∧
    gives (.poll true 2579#32) (gesture .waitNextStep 0#8 0#8 1580#32) 0#32 (gesture .waitNextStep 0#8 0#8 1580#32) ∧
    gives (.poll true 2580#32) (gesture .waitNextStep 0#8 255#8 1580#32) 1#32 (gesture .step 0#8 255#8 2580#32) ∧
    gives (.poll true 4580#32) (gesture .waitNextStep 0#8 0#8 1580#32) 1#32 (gesture .step 0#8 1#8 4580#32) ∧
    gives (.poll false 1480#32) (gesture .releaseHold 1#8 0#8 1180#32) 1#32 (gesture .release 0#8 0#8 1180#32) ∧
    gives (.poll true 4280#32) (gesture .releaseStep 2#8 2#8 3580#32) 1#32 (gesture .release 0#8 2#8 3580#32) ∧
    gives (.poll false 380#32) (gesture .click 1#8 0#8 180#32) 1#32 (gesture .release 1#8 0#8 180#32) ∧
    gives (.poll false 400#32) (gesture .release 1#8 0#8 180#32) 1#32 (gesture .waitClicks 1#8 0#8 400#32) ∧
    gives (.poll false 4300#32) (gesture .release 0#8 2#8 3580#32) 1#32 (gesture .waitTimeout 0#8 0#8 4300#32) ∧
    gives (.poll true 900#32) (gesture .waitClicks 1#8 0#8 400#32) 1#32 (gesture .press 1#8 0#8 400#32) ∧
    gives (.poll false 899#32) (gesture .waitClicks 1#8 0#8 400#32) 0#32 (gesture .waitClicks 1#8 0#8 400#32) ∧
    gives (.poll false 900#32) (gesture .waitClicks 1#8 0#8 400#32) 1#32 (gesture .clicks 1#8 0#8 900#32) ∧
    gives (.poll false 920#32) (gesture .clicks 2#8 0#8 900#32) 1#32 (gesture .waitTimeout 0#8 0#8 900#32) ∧
    gives (.poll true 1000#32) (gesture .waitTimeout 0#8 0#8 900#32) 1#32 (gesture .press 0#8 0#8 900#32) ∧
    gives (.poll false 1899#32) (gesture .waitTimeout 0#8 0#8 900#32) 0#32 (gesture .waitTimeout 0#8 0#8 900#32) ∧
    gives (.poll false 1900#32) (gesture .waitTimeout 0#8 0#8 900#32) 1#32 (gesture .timeout 0#8 0#8 900#32) ∧
    gives (.poll true 1920#32) (gesture .timeout 0#8 0#8 900#32) 1#32 (gesture .idle 0#8 0#8 900#32) := by decide

/-! ## TICK, RESET, NOP -/

/-- TK1, TK2, TK4. -/
theorem test_tick_press :
    gives (.tick true 160#32) (filter State.reset false true true 100#32) 3#32
      (filter (gesture .press 0#8 0#8 0#32) true true false 100#32) ∧
    gives (.tick true 149#32) (filter State.reset false true true 100#32) 0#32
      (filter State.reset false true true 100#32) ∧
    gives (.tick false 180#32) (filter (gesture .press 0#8 0#8 0#32) true true false 0#32) 3#32
      (filter (gesture .waitHold 0#8 0#8 180#32) true false true 180#32) := by decide

/-- TK5, TK6. -/
theorem test_tick_release :
    gives (.tick false 1000#32) State.reset 0#32 State.reset ∧
    gives (.tick false 1180#32) (filter (gesture .waitHold 0#8 0#8 180#32) true false true 1130#32) 1#32
      (filter (gesture .click 1#8 0#8 180#32) false false false 1130#32) := by decide

/-- RS1. -/
theorem test_reset :
    gives .reset (filter (gesture .waitNextStep 1#8 2#8 2580#32) true false true 3000#32) 0#32
      (filter (gesture .idle 0#8 0#8 2580#32) true false true 3000#32) := by decide

/-- NP1. -/
theorem test_nop : reads .nop (gesture .waitClicks 1#8 0#8 400#32) 0#32 := by decide

/-! ## Queries -/

/-- The table of section 2.5: the event query of each event state, asked there and in the next row's state. -/
theorem test_event_flags :
    reads (.evPress false 0#8) (gesture .press 0#8 0#8 0#32) 1#32 ∧
    reads (.evPress false 0#8) (gesture .waitHold 0#8 0#8 0#32) 0#32 ∧
    reads (.evHold false 0#8) (gesture .hold 0#8 0#8 0#32) 1#32 ∧
    reads (.evHold false 0#8) (gesture .waitStep 0#8 0#8 0#32) 0#32 ∧
    reads (.evStep false 0#8) (gesture .step 0#8 0#8 0#32) 1#32 ∧
    reads (.evStep false 0#8) (gesture .waitNextStep 0#8 0#8 0#32) 0#32 ∧
    reads (.evReleaseHold false 0#8) (gesture .releaseHold 0#8 0#8 0#32) 1#32 ∧
    reads (.evReleaseHold false 0#8) (gesture .releaseStep 0#8 0#8 0#32) 0#32 ∧
    reads (.evReleaseStep false 0#8) (gesture .releaseStep 0#8 0#8 0#32) 1#32 ∧
    reads (.evReleaseStep false 0#8) (gesture .click 0#8 0#8 0#32) 0#32 ∧
    reads (.evClick false 0#8) (gesture .click 0#8 0#8 0#32) 1#32 ∧
    reads (.evClick false 0#8) (gesture .release 0#8 0#8 0#32) 0#32 ∧
    reads (.evRelease false 0#8) (gesture .release 0#8 0#8 0#32) 1#32 ∧
    reads (.evRelease false 0#8) (gesture .waitClicks 0#8 0#8 0#32) 0#32 ∧
    reads (.evHasClicks false 0#8) (gesture .clicks 0#8 0#8 0#32) 1#32 ∧
    reads (.evHasClicks false 0#8) (gesture .waitTimeout 0#8 0#8 0#32) 0#32 ∧
    reads (.evTimeout false 0#8) (gesture .timeout 0#8 0#8 0#32) 1#32 ∧
    reads (.evTimeout false 0#8) (gesture .idle 0#8 0#8 0#32) 0#32 := by decide

/-- Q1 to Q5. -/
theorem test_qualifier :
    reads (.evHasClicks true 2#8) (gesture .clicks 2#8 0#8 0#32) 1#32 ∧
    reads (.evHasClicks true 1#8) (gesture .clicks 2#8 0#8 0#32) 0#32 ∧
    reads (.evHasClicks true 0#8) (gesture .clicks 2#8 0#8 0#32) 0#32 ∧
    reads (.evPress true 1#8) (gesture .press 1#8 0#8 0#32) 1#32 ∧
    reads (.evClick true 0#8) (gesture .click 1#8 0#8 0#32) 0#32 ∧
    reads (.evHasClicks true 255#8) (gesture .clicks 255#8 0#8 0#32) 1#32 ∧
    reads (.evHasClicks true 2#8) (gesture .waitClicks 2#8 0#8 0#32) 0#32 := by decide

/-- The columns IS_EVENT, IS_PRESSING and GET_STATE of the table of section 2.5, the rows in the order of the codes. -/
theorem test_subsets_and_codes :
    ([(Gesture.idle, 0#32, 0#32, 0#32), (.press, 1#32, 1#32, 1#32), (.waitHold, 0#32, 1#32, 2#32),
      (.hold, 1#32, 1#32, 3#32), (.waitStep, 0#32, 1#32, 4#32), (.step, 1#32, 1#32, 5#32),
      (.waitNextStep, 0#32, 1#32, 6#32), (.releaseHold, 1#32, 0#32, 7#32), (.releaseStep, 1#32, 0#32, 8#32),
      (.click, 1#32, 0#32, 9#32), (.release, 1#32, 0#32, 10#32), (.waitClicks, 0#32, 0#32, 11#32),
      (.clicks, 1#32, 0#32, 12#32), (.waitTimeout, 0#32, 0#32, 13#32), (.timeout, 1#32, 0#32, 14#32)].all
      fun (g, event, pressing, code) =>
        reads .isEvent (gesture g 0#8 0#8 0#32) event && reads .isPressing (gesture g 0#8 0#8 0#32) pressing &&
        reads .getState (gesture g 0#8 0#8 0#32) code) = true := by decide

/-- Q4, Q6. -/
theorem test_register_reads :
    reads .getClicks (gesture .clicks 255#8 0#8 0#32) 0xFF#32 ∧
    reads .getSteps (gesture .waitNextStep 3#8 7#8 0#32) 7#32 ∧
    reads .getLevel { gesture .waitNextStep 3#8 7#8 0#32 with stableLevel := true } 1#32 := by decide

/-- Q7, Q8, Q12, Q14. -/
theorem test_press_time :
    reads (.getPressTime 679#32) (gesture .waitHold 0#8 0#8 180#32) 0x1F3#32 ∧
    reads (.pressFor 679#32 500#32) (gesture .waitHold 0#8 0#8 180#32) 0#32 ∧
    reads (.pressFor 680#32 500#32) (gesture .waitHold 0#8 0#8 180#32) 1#32 ∧
    reads (.getPressTime 99999#32) (gesture .press 0#8 0#8 12345#32) 0#32 ∧
    reads (.pressFor 99999#32 0#32) (gesture .press 0#8 0#8 12345#32) 1#32 ∧
    reads (.pressFor 360#32 0#32) (gesture .click 1#8 0#8 180#32) 0#32 ∧
    reads (.getPressTime 179#32) (gesture .waitHold 0#8 0#8 180#32) 0xFFFFFFFF#32 ∧
    reads (.pressFor 179#32 0xFFFFFFFF#32) (gesture .waitHold 0#8 0#8 180#32) 1#32 := by decide

/-- Q9, Q10, Q13. -/
theorem test_hold_time :
    reads (.getHoldTime 1380#32) (gesture .waitStep 0#8 0#8 1180#32) 0xC8#32 ∧
    reads (.holdFor 1380#32 200#32) (gesture .waitStep 0#8 0#8 1180#32) 1#32 ∧
    reads (.holdFor 1380#32 201#32) (gesture .waitStep 0#8 0#8 1180#32) 0#32 ∧
    reads (.getHoldTime 2680#32) (gesture .waitNextStep 0#8 1#8 2580#32) 0x5DC#32 ∧
    reads (.getPressTime 2680#32) (gesture .waitNextStep 0#8 1#8 2580#32) 0x9C4#32 ∧
    reads (.holdFor 99999#32 0#32) (gesture .waitHold 0#8 0#8 180#32) 0#32 := by decide

/-- Q10, Q11, Q15, Q16. -/
theorem test_step_time :
    reads (.getStepTime 2680#32) (gesture .waitNextStep 0#8 1#8 2580#32) 0x44C#32 ∧
    reads (.stepFor 2680#32 1100#32) (gesture .waitNextStep 0#8 1#8 2580#32) 1#32 ∧
    reads (.stepFor 2680#32 1101#32) (gesture .waitNextStep 0#8 1#8 2580#32) 0#32 ∧
    reads (.stepFor 1580#32 0#32) (gesture .step 0#8 0#8 1580#32) 1#32 ∧
    reads (.getStepTime 0#32)
      { gesture .waitNextStep 0#8 2#8 0#32 with cfg := { Cfg.defaults with stepPeriodMs := 0x80000000#32 } }
      0xFFFFFFFF#32 ∧
    reads (.getStepTime 1500#32) (gesture .waitNextStep 0#8 255#8 1000#32) 0x3E60C#32 := by decide

/-! ## Witnesses: states and operands that meet a statement's hypotheses, each clause at a boundary value -/

/-- A state that waits in `g` since time 100, so that an elapsed time `e` is asked for at `100 + e`. -/
def since100 (g : Gesture) : State := gesture g 1#8 0#8 100#32

/-- The state with an input waiting. -/
def waiting (xs : List Input) : State := { afterTick with input := xs }

theorem witness_PowerOnResetRegisters : (waiting [.resetInput]).input = Input.resetInput :: [] := by decide

theorem witness_FlagsReadZeroAfterPowerOn :
    Instr.getLevel ∈ [Instr.evPress false 0#8, .evClick false 0#8, .evHold false 0#8, .evReleaseHold false 0#8,
      .evStep false 0#8, .evReleaseStep false 0#8, .evRelease false 0#8, .evHasClicks false 0#8, .evTimeout false 0#8,
      .isEvent, .isPressing, .getLevel] ∧ (waiting [.resetInput]).input = Input.resetInput :: [] := by
  decide

theorem witness_StepRunsDecodedCommand :
    (waiting [.command ⟨0x00000101#32, 160#32, 0#32⟩]).input = Input.command ⟨0x00000101#32, 160#32, 0#32⟩ :: [] ∧
    decode ⟨0x00000101#32, 160#32, 0#32⟩ = .ok (.tick true 160#32) := ⟨rfl, rfl⟩

/-- E1, E12 and E9: one command for each error. -/
theorem witness_CommandErrorWritesNothing :
    decode ⟨0x00000005#32, 0#32, 0#32⟩ = .error .illegalOpcode ∧
    decode ⟨0x00000104#32, 0#32, 0#32⟩ = .error .reservedField ∧
    decode ⟨0x00000204#32, 0#32, 0#32⟩ = .error .qualifierNotAllowed ∧
    (waiting [.command ⟨0x00000005#32, 0#32, 0#32⟩]).input = Input.command ⟨0x00000005#32, 0#32, 0#32⟩ :: [] :=
  ⟨rfl, rfl, rfl, rfl⟩

theorem witness_ErrorLeavesNoTrace :
    decode ⟨0x00000204#32, 0#32, 0#32⟩ = .error .qualifierNotAllowed ∧
    (waiting [.command ⟨0x00000204#32, 0#32, 0#32⟩, .resetInput]).input =
      Input.command ⟨0x00000204#32, 0#32, 0#32⟩ :: Input.resetInput :: [] := ⟨rfl, rfl⟩

theorem witness_BlockWaitsForCommand : State.reset.input = [] := by decide

/-- A reset input with a command behind it; and the encodings of two commands with the reset input behind them. -/
theorem witness_InputsTakenInPortOrder :
    (waiting [.resetInput, .command ⟨0#32, 0#32, 0#32⟩]).input =
      [Input.resetInput] ++ [.command ⟨0#32, 0#32, 0#32⟩] ∧
    (∀ i ∈ [Instr.tick true 60#32, .evPress true 255#8], i.wellFormed = true) ∧
    (waiting [.command ⟨0x00000101#32, 60#32, 0#32⟩, .command ⟨0x00FF0210#32, 0#32, 0#32⟩, .resetInput]).input =
      [Instr.tick true 60#32, .evPress true 255#8].map (fun i => Input.command (encode i)) ++ [.resetInput] := by
  decide

/-- Two steps of a queue, the second seeing what the first left: the press commits, then the query reads 1. -/
theorem test_queue_in_order :
    actOnAll [.command ⟨0x00000101#32, 60#32, 0#32⟩, .command ⟨0x00000010#32, 0#32, 0#32⟩] afterTick =
      some { filter (gesture .press 0#8 0#8 0#32) true true false 10#32 with response := okResponse 1#32 } := by decide

theorem witness_ThresholdsNeverWritten :
    ∃ t, step (waiting [.command ⟨0x00000101#32, 160#32, 0#32⟩]) = .next t := ⟨_, rfl⟩

theorem witness_DecodeOfEncode :
    (Instr.evPress true 255#8).wellFormed = true ∧ (Instr.evPress true 0#8).wellFormed = true ∧
    (Instr.evPress false 0#8).wellFormed = true ∧ (Instr.stepFor 0xFFFFFFFF#32 0xFFFFFFFF#32).wellFormed = true := by
  decide

/-- No byte over, and eleven over. -/
theorem witness_TransportDeliversWholeCommands :
    ([] : List Byte).length < 12 ∧ (List.replicate 11 0xFF#8).length < 12 := by decide

/-- The shortest interval and the longest, which wraps. -/
theorem witness_ElapsedIsTrueInterval : 0 < 2 ^ 32 ∧ 4294967295 < 2 ^ 32 := by decide

/-- The stable level, a commit exactly at the threshold and a sample one short of it, with a timer running and without. -/
theorem witness_DebounceSample :
    false = State.reset.stableLevel ∧
    (true ≠ afterTick.stableLevel ∧ 10#32 = (if afterTick.dbPending = true then afterTick.dbTimestamp else 60#32) ∧
      afterTick.cfg.debounceMs.toNat ≤ (60#32 - 10#32).toNat ∧
      (59#32 - 10#32).toNat < afterTick.cfg.debounceMs.toNat) ∧
    (true ≠ State.reset.stableLevel ∧ 7#32 = (if State.reset.dbPending = true then State.reset.dbTimestamp else 7#32) ∧
      (7#32 - 7#32).toNat < State.reset.cfg.debounceMs.toNat) := by decide

theorem witness_FilterDependsOnItsOwnState :
    SameFilter State.reset (gesture .hold 3#8 2#8 9#32) ∧
    State.reset.cfg.debounceMs = (gesture .hold 3#8 2#8 9#32).cfg.debounceMs ∧
    (∃ t, exec (.debounce true 60#32) State.reset = .next t) ∧
    (∃ t, exec (.debounce true 60#32) (gesture .hold 3#8 2#8 9#32) = .next t) :=
  ⟨⟨rfl, rfl, rfl, rfl⟩, rfl, ⟨_, rfl⟩, ⟨_, rfl⟩⟩

/-- The last sample exactly at the threshold, the one before it one short, across the wrap; and a threshold of 0, where the
first sample commits. -/
theorem witness_SettledLevelCommits :
    (State.reset.dbPending = false ∧
      ([0xFFFFFFF0#32, 0x21#32] ++ [0x22#32]).head? = some 0xFFFFFFF0#32 ∧
      (∀ t ∈ [0xFFFFFFF0#32, 0x21#32], (t - 0xFFFFFFF0#32).toNat < State.reset.cfg.debounceMs.toNat) ∧
      State.reset.cfg.debounceMs.toNat ≤ (0x22#32 - 0xFFFFFFF0#32).toNat) ∧
    (([] ++ [5#32]).head? = some 5#32 ∧ (0#32).toNat ≤ (5#32 - 5#32).toNat) := by
  simp [State.reset, Cfg.defaults]

theorem witness_GlitchNeverCommits :
    State.reset.dbPending = false ∧
    ∀ t ∈ [0xFFFFFFF0#32, 0x21#32], (t - 0xFFFFFFF0#32).toNat < State.reset.cfg.debounceMs.toNat := by
  simp [State.reset, Cfg.defaults]

/-- No row one short of the threshold, one row there, and one in an event state. -/
theorem witness_PollFollowsSourceTable :
    (firingRows true 1099#32 (since100 .waitHold)).length = 0 ∧
    (firingRows true 1100#32 (since100 .waitHold)).length = 1 ∧
    (since100 .timeout).state ∈
      [Gesture.press, .hold, .step, .releaseHold, .releaseStep, .click, .release, .clicks, .timeout] := by decide

theorem witness_PollLeavesEventStates :
    (since100 .press).state = .press ∧ (since100 .hold).state = .hold ∧ (since100 .step).state = .step ∧
    ((since100 .releaseHold).state = .releaseHold ∨ (since100 .releaseHold).state = .releaseStep) ∧
    (since100 .click).state = .click ∧ (since100 .release).state = .release ∧
    (since100 .clicks).state = .clicks ∧ (since100 .timeout).state = .timeout := by decide

/-- Each threshold clause exactly at the threshold and one short of it. -/
theorem witness_PollWaitRowsBeforeStep :
    (since100 .idle).state = .idle ∧
    ((since100 .waitHold).state = .waitHold ∧
      (since100 .waitHold).cfg.holdMs.toNat ≤ (1100#32 - (since100 .waitHold).stateEnteredAt).toNat ∧
      (1099#32 - (since100 .waitHold).stateEnteredAt).toNat < (since100 .waitHold).cfg.holdMs.toNat) ∧
    ((since100 .waitStep).state = .waitStep ∧
      (since100 .waitStep).cfg.stepMs.toNat ≤ (500#32 - (since100 .waitStep).stateEnteredAt).toNat ∧
      (499#32 - (since100 .waitStep).stateEnteredAt).toNat < (since100 .waitStep).cfg.stepMs.toNat) := by decide

/-- Each threshold clause exactly at the threshold and one short of it. -/
theorem witness_PollWaitRowsAfterStep :
    ((since100 .waitNextStep).state = .waitNextStep ∧
      (since100 .waitNextStep).cfg.stepPeriodMs.toNat ≤ (1100#32 - (since100 .waitNextStep).stateEnteredAt).toNat ∧
      (1099#32 - (since100 .waitNextStep).stateEnteredAt).toNat < (since100 .waitNextStep).cfg.stepPeriodMs.toNat) ∧
    ((since100 .waitClicks).state = .waitClicks ∧
      (since100 .waitClicks).cfg.clickWindowMs.toNat ≤ (600#32 - (since100 .waitClicks).stateEnteredAt).toNat ∧
      (599#32 - (since100 .waitClicks).stateEnteredAt).toNat < (since100 .waitClicks).cfg.clickWindowMs.toNat) ∧
    ((since100 .waitTimeout).state = .waitTimeout ∧
      (since100 .waitTimeout).cfg.timeoutMs.toNat ≤ (1100#32 - (since100 .waitTimeout).stateEnteredAt).toNat ∧
      (1099#32 - (since100 .waitTimeout).stateEnteredAt).toNat < (since100 .waitTimeout).cfg.timeoutMs.toNat) := by decide

/-- Each clause exactly at its threshold, with the level that fires the level row. -/
theorem witness_LevelRowWinsOverThreshold :
    ((since100 .waitHold).state = .waitHold ∧
      (since100 .waitHold).cfg.holdMs.toNat ≤ (1100#32 - (since100 .waitHold).stateEnteredAt).toNat ∧
      ∃ t, exec (.poll false 1100#32) (since100 .waitHold) = .next t) ∧
    ((since100 .waitStep).state = .waitStep ∧
      (since100 .waitStep).cfg.stepMs.toNat ≤ (500#32 - (since100 .waitStep).stateEnteredAt).toNat ∧
      ∃ t, exec (.poll false 500#32) (since100 .waitStep) = .next t) ∧
    ((since100 .waitNextStep).state = .waitNextStep ∧
      (since100 .waitNextStep).cfg.stepPeriodMs.toNat ≤ (1100#32 - (since100 .waitNextStep).stateEnteredAt).toNat ∧
      ∃ t, exec (.poll false 1100#32) (since100 .waitNextStep) = .next t) ∧
    ((since100 .waitClicks).state = .waitClicks ∧
      (since100 .waitClicks).cfg.clickWindowMs.toNat ≤ (600#32 - (since100 .waitClicks).stateEnteredAt).toNat ∧
      ∃ t, exec (.poll true 600#32) (since100 .waitClicks) = .next t) ∧
    ((since100 .waitTimeout).state = .waitTimeout ∧
      (since100 .waitTimeout).cfg.timeoutMs.toNat ≤ (1100#32 - (since100 .waitTimeout).stateEnteredAt).toNat ∧
      ∃ t, exec (.poll true 1100#32) (since100 .waitTimeout) = .next t) :=
  ⟨⟨rfl, by decide, _, rfl⟩, ⟨rfl, by decide, _, rfl⟩, ⟨rfl, by decide, _, rfl⟩, ⟨rfl, by decide, _, rfl⟩,
   ⟨rfl, by decide, _, rfl⟩⟩

theorem witness_HeldButtonPressesAgainAfterReset :
    (filter (since100 .waitStep) true true false 0#32).stableLevel = true := by decide

theorem witness_HeldButtonAtPowerOnPresses :
    (∀ t ∈ [100#32, 149#32], (t - 100#32).toNat < State.reset.cfg.debounceMs.toNat) ∧
    State.reset.cfg.debounceMs.toNat ≤ (150#32 - 100#32).toNat := by
  simp [State.reset, Cfg.defaults]

/-- An event state, left by POLL and TICK, kept by NOP, cleared by RESET. -/
theorem witness_EventStateLastsOnePoll :
    (since100 .click).state ∈ [Gesture.press, .hold, .step, .releaseHold, .releaseStep, .click, .release, .clicks, .timeout] ∧
    (∃ t, exec (.poll true 0#32) (since100 .click) = .next t) ∧ (∃ t, exec (.tick true 0#32) (since100 .click) = .next t) ∧
    (∃ t, exec .reset (since100 .click) = .next t) ∧ (∃ t, exec .nop (since100 .click) = .next t) :=
  ⟨by decide, ⟨_, rfl⟩, ⟨_, rfl⟩, ⟨_, rfl⟩, ⟨_, rfl⟩⟩

theorem witness_OneRowPerCommand :
    (∃ t, exec (.poll true 1100#32) (since100 .waitHold) = .next t ∧ t.state ≠ (since100 .waitHold).state) ∧
    (∃ t, exec .reset (since100 .waitHold) = .next t ∧ t.state ≠ (since100 .waitHold).state) :=
  ⟨⟨_, rfl, by decide⟩, ⟨_, rfl, by decide⟩⟩

/-- A move that resets the timer, one that does not, and a command that is no POLL or TICK. -/
theorem witness_TimerWrittenByResetRowsOnly :
    (∃ t, exec (.poll true 1100#32) (since100 .waitHold) = .next t ∧
      ((since100 .waitHold).state, t.state) ∈ timerEdges) ∧
    (∃ t, exec (.tick false 1100#32) (since100 .hold) = .next t ∧ ((since100 .hold).state, t.state) ∉ timerEdges) ∧
    (∃ t, exec .reset (since100 .hold) = .next t) :=
  ⟨⟨_, rfl, by decide⟩, ⟨_, rfl, by decide⟩, ⟨_, rfl⟩⟩

/-- PO21: three periods late; and 254 periods counted, the largest count the statement covers. -/
theorem witness_LatePollMakesOneStep :
    (since100 .waitNextStep).state = .waitNextStep ∧ 0 < 3 ∧ (since100 .waitNextStep).stepCount.toNat < 255 ∧
    (3100#32 - (since100 .waitNextStep).stateEnteredAt).toNat = 3 * (since100 .waitNextStep).cfg.stepPeriodMs.toNat ∧
    (gesture .waitNextStep 0#8 254#8 100#32).stepCount.toNat < 255 := by decide

theorem witness_CountersChangeOnlyByTheirRows :
    (∃ t, exec (.poll false 200#32) (gesture .waitHold 255#8 0#8 100#32) = .next t) ∧
    (∃ t, exec (.poll true 1100#32) (gesture .waitNextStep 0#8 255#8 100#32) = .next t) ∧
    (∃ t, exec (.poll false 200#32) (since100 .clicks) = .next t) ∧
    (∃ t, exec .reset (gesture .waitNextStep 1#8 2#8 100#32) = .next t) :=
  ⟨⟨_, rfl⟩, ⟨_, rfl⟩, ⟨_, rfl⟩, ⟨_, rfl⟩⟩

theorem witness_RegisterWriters :
    (∃ t, exec (.debounce true 200#32) State.reset = .next t) ∧ (∃ t, exec (.poll true 200#32) State.reset = .next t) ∧
    (∃ t, exec .isEvent State.reset = .next t) := ⟨⟨_, rfl⟩, ⟨_, rfl⟩, ⟨_, rfl⟩⟩

/-- A state the machine reaches by a command and not by reset. -/
theorem witness_EveryStepKeepsCounterInvariants :
    CounterInv { gesture .click 1#8 0#8 100#32 with input := [.command ⟨0x00000003#32, 0x17C#32, 0#32⟩] } ∧
    ∃ t, step { gesture .click 1#8 0#8 100#32 with input := [.command ⟨0x00000003#32, 0x17C#32, 0#32⟩] } = .next t :=
  ⟨by simp [CounterInv, gesture, State.reset], ⟨_, rfl⟩⟩

theorem witness_EveryStepKeepsDebounceInvariant :
    DebounceInv (waiting [.command ⟨0x00000102#32, 60#32, 0#32⟩]) ∧
    ∃ t, step (waiting [.command ⟨0x00000102#32, 60#32, 0#32⟩]) = .next t :=
  ⟨by simp [DebounceInv, waiting, afterTick, filter, State.reset], ⟨_, rfl⟩⟩

theorem witness_ResetIsGood : (waiting [.resetInput]).input = Input.resetInput :: [] := by decide

/-- Release from Click and from ReleaseStep. -/
theorem witness_ReleaseCountByOrigin :
    (Good (gesture .click 1#8 0#8 100#32) ∧ ∃ t, exec (.poll false 200#32) (gesture .click 1#8 0#8 100#32) = .next t ∧
      t.state = .release ∧ (gesture .click 1#8 0#8 100#32).state ≠ .release) ∧
    (Good (gesture .releaseStep 2#8 2#8 100#32) ∧
      ∃ t, exec (.poll false 200#32) (gesture .releaseStep 2#8 2#8 100#32) = .next t ∧
      t.state = .release ∧ (gesture .releaseStep 2#8 2#8 100#32).state ≠ .release) :=
  ⟨⟨by simp [Good, DebounceInv, CounterInv, gesture, State.reset], ⟨_, rfl, by decide, by decide⟩⟩,
   ⟨by simp [Good, DebounceInv, CounterInv, gesture, State.reset], ⟨_, rfl, by decide, by decide⟩⟩⟩

theorem witness_QueriesOnlyAnswer : isQuery (.getPressTime 0#32) = true ∧ isQuery (.evPress true 255#8) = true := by decide

theorem witness_AtMostOneEventFlag :
    (Instr.evClick false 0#8 ∈ [Instr.evPress false 0#8, .evClick false 0#8, .evHold false 0#8, .evReleaseHold false 0#8,
      .evStep false 0#8, .evReleaseStep false 0#8, .evRelease false 0#8, .evHasClicks false 0#8, .evTimeout false 0#8]) ∧
    ∃ t, exec (.evClick false 0#8) (since100 .click) = .next t ∧ t.response = okResponse 1#32 :=
  ⟨by decide, ⟨_, rfl, by decide⟩⟩

theorem witness_DurationPredicatesAnswer : 0 = (100#32 - (since100 .waitHold).stateEnteredAt).toNat := by decide

/-- A state of each subset; the press subset also where its duration is 0. -/
theorem witness_PredicatesAgreeWithReadouts :
    exec (.getPressTime 600#32) (since100 .press) = .next { since100 .press with response := okResponse 0#32 } ∧
    exec (.getPressTime 600#32) (since100 .waitNextStep) =
      .next { since100 .waitNextStep with response := okResponse 1900#32 } ∧
    exec (.getHoldTime 600#32) (since100 .hold) = .next { since100 .hold with response := okResponse 500#32 } ∧
    exec (.getStepTime 600#32) (since100 .step) = .next { since100 .step with response := okResponse 500#32 } :=
  ⟨rfl, rfl, rfl, rfl⟩

/-- Two states that differ in each of the three registers the relation leaves out. -/
theorem witness_HiddenRegistersStayHidden :
    Indistinguishable (filter State.reset false false false 1#32) (filter (gesture .idle 0#8 0#8 9#32) false true false 2#32) ∧
    (∃ t, Host.Core.run Sys2Proof.core 0 (filter State.reset false false false 1#32) = .next t) ∧
    (∃ t, Host.Core.run Sys2Proof.core 0 (filter (gesture .idle 0#8 0#8 9#32) false true false 2#32) = .next t) :=
  ⟨by simp [Indistinguishable, filter, gesture, State.reset], ⟨_, rfl⟩, ⟨_, rfl⟩⟩

theorem witness_ShiftedClockSameBehaviour : ∃ t, runAll [.tick true 100#32] State.reset = some t := ⟨_, rfl⟩

end Sys2Proof.Tests
end

/-! # The saturating counters -/
section

namespace Sys2Proof.Machine

/-- A full counter stays full (R18). -/
@[simp] theorem satInc8_full : satInc8 255#8 = 255#8 := rfl

/-- Below 255 the increment does not wrap (R18). -/
theorem satInc8_toNat_of_ne_full {c : Byte} (h : c ≠ 255#8) : (satInc8 c).toNat = c.toNat + 1 := by
  rw [satInc8, if_neg h]
  bv_omega

/-- Settles O21: a full counter stays full, any other one has room for the 1. -/
theorem counterSaturates : Obligations.CounterSaturates := by
  intro c
  by_cases h : c = 255#8
  · rw [h, satInc8_full]
    decide
  · have hroom : c.toNat + 1 ≤ 255 := by bv_omega
    rw [satInc8_toNat_of_ne_full h, min_eq_left hroom]

end Sys2Proof.Machine
end

/-! # The debounce filter, sample by sample -/
section

namespace Sys2Proof.Machine

/-- DEBOUNCE is one sample of the filter, answered with the stable level after it (R101). -/
theorem exec_debounce (raw : Level) (now : Word) (s : State) :
    exec (.debounce raw now) s =
      .next { debounce raw now s with response := okResponse (bit ((debounce raw now s).stableLevel = true)) } := rfl

/-- A differing sample at or past the threshold commits its level (R100). -/
theorem debounce_of_ne_of_le {raw : Level} {now : Word} {s : State} (hne : raw ≠ s.stableLevel)
    (hle : s.cfg.debounceMs.toNat ≤ (now - settleStart now s).toNat) :
    debounce raw now s =
      { s with stableLevel := raw, dbCandidate := raw, dbPending := false, dbTimestamp := settleStart now s } := by
  rw [debounce_of_ne raw now s hne, if_pos hle]

/-- A differing sample short of the threshold leaves the settle timer running (R100). -/
theorem debounce_of_ne_of_lt {raw : Level} {now : Word} {s : State} (hne : raw ≠ s.stableLevel)
    (hlt : (now - settleStart now s).toNat < s.cfg.debounceMs.toNat) :
    debounce raw now s = { s with dbCandidate := raw, dbPending := true, dbTimestamp := settleStart now s } := by
  rw [debounce_of_ne raw now s hne, if_neg (Nat.not_le.mpr hlt)]

/-- Settles O23: the filter's three cases, each with the answer of the command. -/
theorem debounceSample : Obligations.DebounceSample := by
  intro raw now s
  refine ⟨fun heq => ?equal, fun hne since hsince => ?differs⟩
  case equal =>
    rw [exec_debounce, debounce_of_eq raw now s heq, heq]
  case differs =>
    obtain rfl : since = settleStart now s := hsince
    constructor
    · intro hle
      rw [exec_debounce, debounce_of_ne_of_le hne hle]
    · intro hlt
      rw [exec_debounce, debounce_of_ne_of_lt hne hlt]

end Sys2Proof.Machine
end

/-! # POLL, row by row -/
section

namespace Sys2Proof.Machine

/-- The saturating increment in the arithmetic of the statements. -/
theorem satInc8_eq_ofNat (c : Byte) : satInc8 c = BitVec.ofNat 8 (min (c.toNat + 1) 255) := by
  apply BitVec.eq_of_toNat_eq
  rw [counterSaturates c, BitVec.toNat_ofNat]
  omega

/-! ## What the machine computes in each state (R120) -/
section

variable {s : State} (level : Level) (now : Word)

theorem poll_idle (hs : s.state = .idle) :
    poll level now s = if level = true then { s with state := .press } else s := by
  simp only [poll, hs, State.enter]

theorem poll_press (hs : s.state = .press) :
    poll level now s = { s with state := .waitHold, stateEnteredAt := now } := by
  simp only [poll, hs, State.enter, State.resetTimer]

theorem poll_waitHold (hs : s.state = .waitHold) :
    poll level now s =
      if level = false then
        { s with state := .click, clickCount := BitVec.ofNat 8 (min (s.clickCount.toNat + 1) 255) }
      else if s.cfg.holdMs.toNat ≤ (now - s.stateEnteredAt).toNat then
        { s with state := .hold, stateEnteredAt := now }
      else s := by
  simp only [poll, hs, State.enter, State.resetTimer, State.countClick, satInc8_eq_ofNat, Bool.not_eq_true',
    reached_iff, elapsed_eq]

theorem poll_hold (hs : s.state = .hold) : poll level now s = { s with state := .waitStep } := by
  simp only [poll, hs, State.enter]

theorem poll_waitStep (hs : s.state = .waitStep) :
    poll level now s =
      if level = false then { s with state := .releaseHold }
      else if s.cfg.stepMs.toNat ≤ (now - s.stateEnteredAt).toNat then
        { s with state := .step, stateEnteredAt := now }
      else s := by
  simp only [poll, hs, State.enter, State.resetTimer, Bool.not_eq_true', reached_iff, elapsed_eq]

theorem poll_step (hs : s.state = .step) : poll level now s = { s with state := .waitNextStep } := by
  simp only [poll, hs, State.enter]

theorem poll_waitNextStep (hs : s.state = .waitNextStep) :
    poll level now s =
      if level = false then { s with state := .releaseStep }
      else if s.cfg.stepPeriodMs.toNat ≤ (now - s.stateEnteredAt).toNat then
        { s with
          state := .step, stepCount := BitVec.ofNat 8 (min (s.stepCount.toNat + 1) 255), stateEnteredAt := now }
      else s := by
  simp only [poll, hs, State.enter, State.resetTimer, State.countStep, satInc8_eq_ofNat, Bool.not_eq_true',
    reached_iff, elapsed_eq]

theorem poll_releaseHold (hs : s.state = .releaseHold) :
    poll level now s = { s with state := .release, clickCount := 0#8 } := by
  simp only [poll, hs, State.enter, State.clearClicks]

theorem poll_releaseStep (hs : s.state = .releaseStep) :
    poll level now s = { s with state := .release, clickCount := 0#8 } := by
  simp only [poll, hs, State.enter, State.clearClicks]

theorem poll_click (hs : s.state = .click) : poll level now s = { s with state := .release } := by
  simp only [poll, hs, State.enter]

theorem poll_release (hs : s.state = .release) :
    poll level now s = { s with
      state := if 0 < s.clickCount.toNat then .waitClicks else .waitTimeout
      stepCount := 0#8
      stateEnteredAt := now } := by
  simp only [poll, hs, State.enter, State.clearSteps, State.resetTimer]
  by_cases hc : s.clickCount = 0#8
  · simp [hc]
  · have hpos : 0 < s.clickCount.toNat := by bv_omega
    rw [if_neg hc, if_pos hpos]

theorem poll_waitClicks (hs : s.state = .waitClicks) :
    poll level now s =
      if level = true then { s with state := .press }
      else if s.cfg.clickWindowMs.toNat ≤ (now - s.stateEnteredAt).toNat then
        { s with state := .clicks, stateEnteredAt := now }
      else s := by
  simp only [poll, hs, State.enter, State.resetTimer, reached_iff, elapsed_eq]

theorem poll_clicks (hs : s.state = .clicks) :
    poll level now s = { s with state := .waitTimeout, clickCount := 0#8 } := by
  simp only [poll, hs, State.enter, State.clearClicks]

theorem poll_waitTimeout (hs : s.state = .waitTimeout) :
    poll level now s =
      if level = true then { s with state := .press }
      else if s.cfg.timeoutMs.toNat ≤ (now - s.stateEnteredAt).toNat then { s with state := .timeout }
      else s := by
  simp only [poll, hs, State.enter, reached_iff, elapsed_eq]

theorem poll_timeout (hs : s.state = .timeout) : poll level now s = { s with state := .idle } := by
  simp only [poll, hs, State.enter]

/-- An event state is left by the next evaluation, whatever the level and the time (R147). -/
theorem poll_state_ne_of_event
    (hs : s.state ∈
      [Gesture.press, .hold, .step, .releaseHold, .releaseStep, .click, .release, .clicks, .timeout]) :
    (poll level now s).state ≠ s.state := by
  rw [poll_state]
  cases h : s.state with
  | idle | waitHold | waitStep | waitNextStep | waitClicks | waitTimeout => simp [h] at hs
  | release => by_cases hc : s.clickCount = 0#8 <;> simp [hc]
  | press | hold | step | releaseHold | releaseStep | click | clicks | timeout => simp

end

/-! ## What POLL answers (R122, R142) -/
section

variable {s t : State} {level : Level} {now : Word}

/-- POLL is one evaluation of the machine, answered with whether the state changed. -/
theorem exec_poll (level : Level) (now : Word) (s : State) :
    exec (.poll level now) s = .next ((poll level now s).respond (zextBool (changed s (poll level now s)))) := rfl

/-- POLL reads no earlier response (R33). -/
theorem exec_poll_respond (level : Level) (now r : Word) (s : State) :
    exec (.poll level now) (s.respond r) = exec (.poll level now) s := by
  rw [exec_poll, exec_poll, poll_respond]
  rfl

theorem exec_poll_of_move {g : Gesture} (hs : s.state = g) (hpoll : poll level now s = t) (hne : t.state ≠ g) :
    exec (.poll level now) s = .next { t with response := okResponse 1#32 } := by
  have hchanged : changed s t = true := by simp [changed, hs, hne]
  rw [exec_poll, hpoll, hchanged]
  rfl

theorem exec_poll_of_stay (hpoll : poll level now s = s) :
    exec (.poll level now) s = .next { s with response := okResponse 0#32 } := by
  have hchanged : changed s s = false := by simp [changed]
  rw [exec_poll, hpoll, hchanged]
  rfl

end

/-! ## The source's table (R120) -/
section

variable {level : Level} {now : Word} {s : State}

/-- Every row of the table leads to another state than its own, so a row that fires is a change of state (R122). -/
theorem sourceTable_target_ne_source : ∀ r ∈ sourceTable, r.target ≠ r.source := by
  simp [sourceTable]

/-- A row that fires starts in the present state and leads out of it. -/
theorem apply_state_ne_of_mem_firingRows {r : TableRow} (hr : r ∈ firingRows level now s) :
    (r.apply now s).state ≠ s.state := by
  obtain ⟨hmem, hfires⟩ := List.mem_filter.mp hr
  obtain ⟨hsource, -⟩ : s.state = r.source ∧ r.condition.holds level now s = true := by
    simpa [TableRow.fires] using hfires
  rw [hsource]
  exact sourceTable_target_ne_source r hmem

/-- The rows of the table that start in a state. -/
def rowsFrom (g : Gesture) : List TableRow := sourceTable.filter (fun r => decide (g = r.source))

theorem firingRows_eq_filter_rowsFrom {g : Gesture} (hs : s.state = g) :
    firingRows level now s = (rowsFrom g).filter (fun r => r.condition.holds level now s) := by
  rw [firingRows, rowsFrom, List.filter_filter]
  refine List.filter_congr fun r _ => ?_
  rw [TableRow.fires, hs, Bool.and_comm]

/-- What the first row that fires does to the state; nothing where none does. -/
def applyFirst (level : Level) (now : Word) (s : State) (rows : List TableRow) : State :=
  (rows.filter (fun r => r.condition.holds level now s)).head?.elim s (TableRow.apply now s)

theorem applyFirst_nil : applyFirst level now s [] = s := rfl

theorem applyFirst_cons (r : TableRow) (rows : List TableRow) :
    applyFirst level now s (r :: rows) =
      if r.condition.holds level now s = true then r.apply now s else applyFirst level now s rows := by
  unfold applyFirst
  rw [List.filter_cons]
  split <;> rfl

/-- The two rows of a waiting state, one on the level before one on the time since the state was entered, against the
evaluation equation of that state (R121). -/
theorem poll_eq_applyFirst_of_waits {levelRow thresholdRow : TableRow} {fires : Level} {threshold : Cfg → Word}
    (hlevel : levelRow.condition.holds level now s = (level == fires))
    (hthreshold : thresholdRow.condition = .elapsedAtLeast threshold)
    (hpoll : poll level now s =
      if level = fires then levelRow.apply now s
      else if (threshold s.cfg).toNat ≤ (now - s.stateEnteredAt).toNat then thresholdRow.apply now s
      else s) :
    poll level now s = applyFirst level now s [levelRow, thresholdRow] := by
  have hlate : thresholdRow.condition.holds level now s =
      decide ((threshold s.cfg).toNat ≤ (now - s.stateEnteredAt).toNat) := by
    rw [hthreshold]
    rfl
  simp only [hpoll, applyFirst_cons, applyFirst_nil, hlevel, hlate, beq_iff_eq, decide_eq_true_eq]

/-- The machine does what the first firing row of its state says. -/
theorem poll_eq_applyFirst_rowsFrom : poll level now s = applyFirst level now s (rowsFrom s.state) := by
  cases hs : s.state with
  | idle =>
    rw [poll_idle level now hs]
    cases level <;> rfl
  | press => exact poll_press level now hs
  | waitHold => exact poll_eq_applyFirst_of_waits rfl rfl (poll_waitHold level now hs)
  | hold => exact poll_hold level now hs
  | waitStep => exact poll_eq_applyFirst_of_waits rfl rfl (poll_waitStep level now hs)
  | step => exact poll_step level now hs
  | waitNextStep => exact poll_eq_applyFirst_of_waits rfl rfl (poll_waitNextStep level now hs)
  | releaseHold => exact poll_releaseHold level now hs
  | releaseStep => exact poll_releaseStep level now hs
  | click => exact poll_click level now hs
  | release =>
    rw [poll_release level now hs]
    by_cases hc : 0 < s.clickCount.toNat
    · simp [rowsFrom, sourceTable, applyFirst_cons, RowCondition.holds, hc, TableRow.apply, CounterEffect.apply]
    · have hzero : s.clickCount.toNat = 0 := by omega
      simp [rowsFrom, sourceTable, applyFirst_cons, RowCondition.holds, hzero, TableRow.apply, CounterEffect.apply]
  | waitClicks => exact poll_eq_applyFirst_of_waits rfl rfl (poll_waitClicks level now hs)
  | clicks => exact poll_clicks level now hs
  | waitTimeout => exact poll_eq_applyFirst_of_waits rfl rfl (poll_waitTimeout level now hs)
  | timeout => exact poll_timeout level now hs

theorem poll_eq_first_firingRow :
    poll level now s = (firingRows level now s).head?.elim s (TableRow.apply now s) := by
  rw [poll_eq_applyFirst_rowsFrom, applyFirst, firingRows_eq_filter_rowsFrom rfl]

end

/-- Settles O27: the machine applies the first firing row, every row moves, and an event state is always left. -/
theorem pollFollowsSourceTable : Obligations.PollFollowsSourceTable := by
  intro level now s
  refine ⟨fun hnone => ?none, fun r more hfirst => ?first, fun hevent hnone => ?event⟩
  case none =>
    apply exec_poll_of_stay
    rw [poll_eq_first_firingRow, hnone]
    rfl
  case first =>
    apply exec_poll_of_move rfl
    · rw [poll_eq_first_firingRow, hfirst]
      rfl
    · exact apply_state_ne_of_mem_firingRows (hfirst ▸ List.mem_cons_self)
  case event =>
    apply poll_state_ne_of_event level now hevent
    rw [poll_eq_first_firingRow, hnone]
    rfl

/-! ## The rows one by one, each with its frame -/

/-- Settles O28: each event state has one evaluation equation, and its target is another state. -/
theorem pollLeavesEventStates : Obligations.PollLeavesEventStates := by
  intro level now s
  refine ⟨fun hs => ?press, fun hs => ?hold, fun hs => ?step, fun hs => ?released, fun hs => ?click,
    fun hs => ?release, fun hs => ?clicks, fun hs => ?timeout⟩
  case press => exact exec_poll_of_move hs (poll_press level now hs) nofun
  case hold => exact exec_poll_of_move hs (poll_hold level now hs) nofun
  case step => exact exec_poll_of_move hs (poll_step level now hs) nofun
  case released =>
    obtain hs | hs := hs
    · exact exec_poll_of_move hs (poll_releaseHold level now hs) nofun
    · exact exec_poll_of_move hs (poll_releaseStep level now hs) nofun
  case click => exact exec_poll_of_move hs (poll_click level now hs) nofun
  case release =>
    refine exec_poll_of_move hs (poll_release level now hs) ?_
    by_cases hc : 0 < s.clickCount.toNat <;> simp [hc]
  case clicks => exact exec_poll_of_move hs (poll_clicks level now hs) nofun
  case timeout => exact exec_poll_of_move hs (poll_timeout level now hs) nofun

section

variable {level : Level} {now : Word} {s : State}

/-- What POLL does in a waiting state with a level row that fires at the level `fires` and a threshold row: each row's
whole next state, and no write where neither fires. -/
structure PollWaits (fires : Level) (threshold : Word) (level : Level) (now : Word)
    (s onLevel onThreshold : State) : Prop where
  levelRow : level = fires → exec (.poll level now) s = .next { onLevel with response := okResponse 1#32 }
  thresholdRow : level = !fires → threshold.toNat ≤ (now - s.stateEnteredAt).toNat →
    exec (.poll level now) s = .next { onThreshold with response := okResponse 1#32 }
  stays : level = !fires → (now - s.stateEnteredAt).toNat < threshold.toNat →
    exec (.poll level now) s = .next { s with response := okResponse 0#32 }

theorem pollWaits_of_poll_eq {g : Gesture} {fires : Level} {threshold : Word} {onLevel onThreshold : State}
    (hs : s.state = g)
    (hpoll : poll level now s =
      if level = fires then onLevel
      else if threshold.toNat ≤ (now - s.stateEnteredAt).toNat then onThreshold else s)
    (hlevel : onLevel.state ≠ g) (hthreshold : onThreshold.state ≠ g) :
    PollWaits fires threshold level now s onLevel onThreshold where
  levelRow hfires := exec_poll_of_move hs (hpoll.trans (if_pos hfires)) hlevel
  thresholdRow hother hlate := by
    have hnot : level ≠ fires := by simp [hother]
    exact exec_poll_of_move hs (by rw [hpoll, if_neg hnot, if_pos hlate]) hthreshold
  stays hother hearly := by
    have hnot : level ≠ fires := by simp [hother]
    exact exec_poll_of_stay (by rw [hpoll, if_neg hnot, if_neg (Nat.not_le.mpr hearly)])

theorem pollWaits_waitHold (hs : s.state = .waitHold) :
    PollWaits false s.cfg.holdMs level now s
      { s with state := .click, clickCount := BitVec.ofNat 8 (min (s.clickCount.toNat + 1) 255) }
      { s with state := .hold, stateEnteredAt := now } :=
  pollWaits_of_poll_eq hs (poll_waitHold level now hs) nofun nofun

theorem pollWaits_waitStep (hs : s.state = .waitStep) :
    PollWaits false s.cfg.stepMs level now s
      { s with state := .releaseHold } { s with state := .step, stateEnteredAt := now } :=
  pollWaits_of_poll_eq hs (poll_waitStep level now hs) nofun nofun

theorem pollWaits_waitNextStep (hs : s.state = .waitNextStep) :
    PollWaits false s.cfg.stepPeriodMs level now s
      { s with state := .releaseStep }
      { s with
        state := .step, stepCount := BitVec.ofNat 8 (min (s.stepCount.toNat + 1) 255), stateEnteredAt := now } :=
  pollWaits_of_poll_eq hs (poll_waitNextStep level now hs) nofun nofun

theorem pollWaits_waitClicks (hs : s.state = .waitClicks) :
    PollWaits true s.cfg.clickWindowMs level now s
      { s with state := .press } { s with state := .clicks, stateEnteredAt := now } :=
  pollWaits_of_poll_eq hs (poll_waitClicks level now hs) nofun nofun

theorem pollWaits_waitTimeout (hs : s.state = .waitTimeout) :
    PollWaits true s.cfg.timeoutMs level now s { s with state := .press } { s with state := .timeout } :=
  pollWaits_of_poll_eq hs (poll_waitTimeout level now hs) nofun nofun

theorem exec_poll_idle_pressed (hs : s.state = .idle) (hlevel : level = true) :
    exec (.poll level now) s = .next { s with state := .press, response := okResponse 1#32 } :=
  exec_poll_of_move hs ((poll_idle level now hs).trans (if_pos hlevel)) nofun

theorem exec_poll_idle_released (hs : s.state = .idle) (hlevel : level = false) :
    exec (.poll level now) s = .next { s with response := okResponse 0#32 } :=
  exec_poll_of_stay ((poll_idle level now hs).trans (if_neg (by simp [hlevel])))

/-- At the level of its level row a waiting state goes to that row's target, at any time (R121). -/
theorem PollWaits.target_of_next {fires : Level} {threshold : Word} {onLevel onThreshold t : State}
    (h : PollWaits fires threshold fires now s onLevel onThreshold) (ht : exec (.poll fires now) s = .next t) :
    t.state = onLevel.state := by
  rw [h.levelRow rfl] at ht
  cases ht
  rfl

end

/-- Settles O29: the two cases of Idle and the three of WaitHold and of WaitStep. -/
theorem pollWaitRowsBeforeStep : Obligations.PollWaitRowsBeforeStep := by
  rintro level now s e rfl
  exact ⟨exec_poll_idle_pressed, exec_poll_idle_released,
    fun hs => (pollWaits_waitHold hs).levelRow, fun hs => (pollWaits_waitHold hs).thresholdRow,
    fun hs => (pollWaits_waitHold hs).stays,
    fun hs => (pollWaits_waitStep hs).levelRow, fun hs => (pollWaits_waitStep hs).thresholdRow,
    fun hs => (pollWaits_waitStep hs).stays⟩

/-- Settles O30: the three cases of WaitNextStep, of WaitClicks and of WaitTimeout. -/
theorem pollWaitRowsAfterStep : Obligations.PollWaitRowsAfterStep := by
  rintro level now s e rfl
  exact ⟨fun hs => (pollWaits_waitNextStep hs).levelRow, fun hs => (pollWaits_waitNextStep hs).thresholdRow,
    fun hs => (pollWaits_waitNextStep hs).stays,
    fun hs => (pollWaits_waitClicks hs).levelRow, fun hs => (pollWaits_waitClicks hs).thresholdRow,
    fun hs => (pollWaits_waitClicks hs).stays,
    fun hs => (pollWaits_waitTimeout hs).levelRow, fun hs => (pollWaits_waitTimeout hs).thresholdRow,
    fun hs => (pollWaits_waitTimeout hs).stays⟩

/-- Settles O31: in each waiting state the level row fires at its level, past the threshold too. -/
theorem levelRowWinsOverThreshold : Obligations.LevelRowWinsOverThreshold := by
  rintro now s t e rfl
  exact ⟨fun hs _ => (pollWaits_waitHold hs).target_of_next, fun hs _ => (pollWaits_waitStep hs).target_of_next,
    fun hs _ => (pollWaits_waitNextStep hs).target_of_next, fun hs _ => (pollWaits_waitClicks hs).target_of_next,
    fun hs _ => (pollWaits_waitTimeout hs).target_of_next⟩

end Sys2Proof.Machine
end

/-! # TICK, RESET and NOP -/
section

namespace Sys2Proof.Machine

/-- TICK is a sample of the filter and one evaluation on the level it gives, answered with both bits (R143). -/
theorem exec_tick (level : Level) (now : Word) (s : State) {d : State} (hd : debounce level now s = d) :
    exec (.tick level now) s =
      .next ((poll d.stableLevel now d).respond (tickResult d.stableLevel (changed d (poll d.stableLevel now d)))) := by
  subst hd
  rfl

theorem encode_tick (level : Level) (now : Word) :
    encode (.tick level now) = ⟨if level = true then 0x00000101#32 else 0x00000001#32, now, 0#32⟩ := by
  cases level <;> simp [encode, Instr.operands, Instr.opcode, controlWord]

/-- The result of TICK as a number, the filter leaving the gesture state alone (R81, R106). -/
theorem tickResult_changed (stable : Bool) {s d p : State} (hd : d.state = s.state) :
    tickResult stable (changed d p) =
      BitVec.ofNat 32 ((if stable = true then 2 else 0) + (if p.state = s.state then 0 else 1)) := by
  rw [tickResult_eq, changed, hd]
  by_cases hp : p.state = s.state <;> simp [hp]

/-- Settles O32: the answer of DEBOUNCE in between is nothing POLL reads. -/
theorem tickIsDebounceThenPoll : Obligations.TickIsDebounceThenPoll := by
  intro level now s
  obtain ⟨d, hd⟩ : ∃ d, debounce level now s = d := ⟨_, rfl⟩
  have hkept : d.state = s.state := hd ▸ debounce_state level now s
  have hdebounce : exec (.debounce level now) s = .next (d.respond (bit (d.stableLevel = true))) := by
    rw [exec_debounce, hd]
    rfl
  refine ⟨_, _, hdebounce, exec_poll_respond .., ?_, encode_tick level now⟩
  rw [exec_tick level now s hd, tickResult_changed _ hkept]
  rfl

/-- Settles O33: both conjuncts are the definitions of RESET and of its encoding. -/
theorem resetClearsGestureState : Obligations.ResetClearsGestureState :=
  fun _ => ⟨rfl, rfl⟩

/-- Settles O36: both conjuncts are the definitions of NOP and of its encoding. -/
theorem nopWritesNothing : Obligations.NopWritesNothing :=
  fun _ => ⟨rfl, rfl⟩

end Sys2Proof.Machine
end

/-! # Queries -/
section

namespace Sys2Proof.Machine

/-! ## What every query has in common (R33, R160) -/

/-- No command reads the response returned last (R33). -/
theorem exec_respond (i : Instr) (r : Word) (s : State) : exec i (s.respond r) = exec i s := by
  cases i with
  | debounce level now => rw [exec_debounce, exec_debounce, debounce_respond]; rfl
  | poll level now => exact exec_poll_respond level now r s
  | tick level now =>
    rw [exec_tick level now s rfl, exec_tick level now (s.respond r) (debounce_respond ..), State.respond_stableLevel,
      poll_respond]
    rfl
  | _ => rfl

/-- A query does nothing but answer (R160). -/
theorem exec_of_isQuery {i : Instr} (hquery : isQuery i = true) (s : State) : ∃ r, exec i s = .next (s.respond r) := by
  cases i with
  | nop | tick | debounce | poll | reset => cases hquery
  | _ => exact ⟨_, rfl⟩

/-- Settles O48: the second answer is given after the first, which the query does not read. -/
theorem queriesOnlyAnswer : Obligations.QueriesOnlyAnswer := by
  intro i s hquery
  obtain ⟨r, hr⟩ := exec_of_isQuery hquery s
  exact ⟨r, hr, (exec_respond i r s).trans hr⟩

/-! ## The subsets and the registers (R172 to R178) -/

theorem zextBool_eq_bit {b : Bool} {p : Prop} [Decidable p] (h : b = true ↔ p) : zextBool b = bit p := by
  simp only [zextBool, bit, h]

theorem isEvent_iff_mem (g : Gesture) :
    g.isEvent = true ↔
      g ∈ [Gesture.press, .click, .hold, .releaseHold, .step, .releaseStep, .release, .clicks, .timeout] := by
  cases g <;> decide

theorem pressing_iff_mem (g : Gesture) :
    g.pressing = true ↔ g ∈ [Gesture.press, .waitHold, .hold, .waitStep, .step, .waitNextStep] := by
  cases g <;> decide

/-- Settles O51: the flag is membership in the list of event states. -/
theorem isEventAnswers : Obligations.IsEventAnswers := by
  intro s
  rw [← zextBool_eq_bit (isEvent_iff_mem s.state)]
  exact ⟨rfl, rfl⟩

/-- Settles O52: the flag is membership in the list of pressing states. -/
theorem isPressingAnswers : Obligations.IsPressingAnswers := by
  intro s
  rw [← zextBool_eq_bit (pressing_iff_mem s.state)]
  exact ⟨rfl, rfl⟩

/-- Settles O53: the counters are zero-extended, and the codes of the states are compared one by one. -/
theorem registerReadsAnswer : Obligations.RegisterReadsAnswer := by
  intro s
  rw [BitVec.ofNat_toNat, BitVec.ofNat_toNat]
  refine ⟨rfl, rfl, rfl, rfl, rfl, rfl, rfl, s.state.code.setWidth 32, rfl, ?codes⟩
  case codes => cases s.state <;> rfl

/-! ## The durations, state by state (R179 to R181) -/
section

variable {s : State} (now : Word)

theorem pressDuration_press (hs : s.state = .press) : pressDuration now s = 0 := by
  simp only [pressDuration, hs]

theorem pressDuration_waitHold (hs : s.state = .waitHold) :
    pressDuration now s = (now - s.stateEnteredAt).toNat := by
  simp only [pressDuration, hs, phaseTime, elapsed_eq]

theorem pressDuration_beforeStep (hs : s.state = .hold ∨ s.state = .waitStep) :
    pressDuration now s = s.cfg.holdMs.toNat + (now - s.stateEnteredAt).toNat := by
  obtain hs | hs := hs <;> simp only [pressDuration, hs, phaseTime, elapsed_eq]

theorem pressDuration_stepping (hs : s.state = .step ∨ s.state = .waitNextStep) :
    pressDuration now s =
      s.cfg.holdMs.toNat + s.cfg.stepMs.toNat + s.stepCount.toNat * s.cfg.stepPeriodMs.toNat +
        (now - s.stateEnteredAt).toNat := by
  obtain hs | hs := hs <;> simp only [pressDuration, hs, phaseTime, repeatTime, elapsed_eq]

theorem pressDuration_outside (hs : s.state.pressing = false) : pressDuration now s = 0 := by
  unfold pressDuration
  revert hs
  cases s.state with
  | press | waitHold | hold | waitStep | step | waitNextStep => exact nofun
  | _ => exact fun _ => rfl

theorem holdDuration_beforeStep (hs : s.state = .hold ∨ s.state = .waitStep) :
    holdDuration now s = (now - s.stateEnteredAt).toNat := by
  obtain hs | hs := hs <;> simp only [holdDuration, hs, phaseTime, elapsed_eq]

theorem holdDuration_stepping (hs : s.state = .step ∨ s.state = .waitNextStep) :
    holdDuration now s =
      s.cfg.stepMs.toNat + s.stepCount.toNat * s.cfg.stepPeriodMs.toNat + (now - s.stateEnteredAt).toNat := by
  obtain hs | hs := hs <;> simp only [holdDuration, hs, phaseTime, repeatTime, elapsed_eq]

theorem holdDuration_outside (hs : s.state.holding = false) : holdDuration now s = 0 := by
  unfold holdDuration
  revert hs
  cases s.state with
  | hold | waitStep | step | waitNextStep => exact nofun
  | _ => exact fun _ => rfl

theorem stepDuration_stepping (hs : s.state = .step ∨ s.state = .waitNextStep) :
    stepDuration now s = s.stepCount.toNat * s.cfg.stepPeriodMs.toNat + (now - s.stateEnteredAt).toNat := by
  obtain hs | hs := hs <;> simp only [stepDuration, hs, phaseTime, repeatTime, elapsed_eq]

theorem stepDuration_outside (hs : s.state.stepping = false) : stepDuration now s = 0 := by
  unfold stepDuration
  revert hs
  cases s.state with
  | step | waitNextStep => exact nofun
  | _ => exact fun _ => rfl

end

/-! ## The read-outs and the predicates (R182 to R187) -/

/-- The words of a command without a level and without a qualifier (R71, R74). -/
theorem encode_of_operands {i : Instr} {time arg : Word} (hops : i.operands = (false, false, 0#8, time, arg)) :
    encode i = ⟨i.opcode.setWidth 32, time, arg⟩ := by
  have hword : ∀ op : BitVec 5, controlWord op false false 0#8 = op.setWidth 32 := by decide
  simp only [encode, hops, hword]

/-- Settles O54: the read-out saturates the press duration, whose row is that of the state. -/
theorem pressTimeAnswers : Obligations.PressTimeAnswers := by
  intro now s
  refine ⟨saturate32 (pressDuration now s), rfl, encode_of_operands rfl, ?_⟩
  rintro _ rfl
  rw [saturate32_toNat]
  cases hs : s.state with
  | press => rw [pressDuration_press now hs]
  | waitHold => rw [pressDuration_waitHold now hs]
  | hold | waitStep => rw [pressDuration_beforeStep now (by simp [hs])]
  | step | waitNextStep => rw [pressDuration_stepping now (by simp [hs])]
  | _ => rw [pressDuration_outside now (by rw [hs]; rfl)]

/-- Settles O55: the read-out saturates the hold duration, whose row is that of the state. -/
theorem holdTimeAnswers : Obligations.HoldTimeAnswers := by
  intro now s
  refine ⟨saturate32 (holdDuration now s), rfl, encode_of_operands rfl, ?_⟩
  rintro _ rfl
  rw [saturate32_toNat]
  cases hs : s.state with
  | hold | waitStep => rw [holdDuration_beforeStep now (by simp [hs])]
  | step | waitNextStep => rw [holdDuration_stepping now (by simp [hs])]
  | _ => rw [holdDuration_outside now (by rw [hs]; rfl)]

/-- Settles O56: the read-out saturates the step duration, whose row is that of the state. -/
theorem stepTimeAnswers : Obligations.StepTimeAnswers := by
  intro now s
  refine ⟨saturate32 (stepDuration now s), rfl, encode_of_operands rfl, ?_⟩
  rintro _ rfl
  rw [saturate32_toNat]
  cases hs : s.state with
  | step | waitNextStep => rw [stepDuration_stepping now (by simp [hs])]
  | _ => rw [stepDuration_outside now (by rw [hs]; rfl)]

theorem lasted_iff_le_of_eq {inSubset : Bool} {d d' : Nat} (ms : Word) (hin : inSubset = true) (hd : d = d') :
    lasted inSubset d ms = true ↔ ms.toNat ≤ d' := by
  simp [lasted_iff, hin, hd]

theorem lasted_iff_false {inSubset : Bool} {d : Nat} (ms : Word) (hout : inSubset = false) :
    lasted inSubset d ms = true ↔ False := by
  simp [lasted_iff, hout]

/-- Settles O57: inside its subset each predicate compares the row of its duration with `ms`, outside it answers 0. -/
theorem durationPredicatesAnswer : Obligations.DurationPredicatesAnswer := by
  rintro now ms s _ rfl
  refine ⟨⟨lasted s.state.pressing (pressDuration now s) ms, rfl, ?press⟩,
    ⟨lasted s.state.holding (holdDuration now s) ms, rfl, ?hold⟩,
    ⟨lasted s.state.stepping (stepDuration now s) ms, rfl, ?step⟩, encode_of_operands rfl, encode_of_operands rfl,
    encode_of_operands rfl⟩
  case press =>
    cases hs : s.state with
    | press => exact lasted_iff_le_of_eq ms rfl (pressDuration_press now hs)
    | waitHold => exact lasted_iff_le_of_eq ms rfl (pressDuration_waitHold now hs)
    | hold | waitStep => exact lasted_iff_le_of_eq ms rfl (pressDuration_beforeStep now (by simp [hs]))
    | step | waitNextStep => exact lasted_iff_le_of_eq ms rfl (pressDuration_stepping now (by simp [hs]))
    | _ => exact lasted_iff_false ms rfl
  case hold =>
    cases hs : s.state with
    | hold | waitStep => exact lasted_iff_le_of_eq ms rfl (holdDuration_beforeStep now (by simp [hs]))
    | step | waitNextStep => exact lasted_iff_le_of_eq ms rfl (holdDuration_stepping now (by simp [hs]))
    | _ => exact lasted_iff_false ms rfl
  case step =>
    cases hs : s.state with
    | step | waitNextStep => exact lasted_iff_le_of_eq ms rfl (stepDuration_stepping now (by simp [hs]))
    | _ => exact lasted_iff_false ms rfl

end Sys2Proof.Machine
end

/-! # The port and the command error -/
section

namespace Sys2Proof.Machine

/-! ## The step at a port that holds something (R57) -/

theorem step_of_input_cons {s : State} {x : Input} {rest : List Input} (hport : s.input = x :: rest) :
    step s = runInput x { s with input := rest } := by
  simp only [step, serve, State.takeInput, hport]

theorem step_of_decode_error {s : State} {c : Command} {rest : List Input} {e : CommandError}
    (hport : s.input = .command c :: rest) (herror : decode c = .error e) :
    step s = .next (State.raiseCommandError e { s with input := rest }) :=
  (step_of_input_cons hport).trans (runCommand_error c e _ herror)

/-- Settles O4: an error code is the status the response then holds, and commands that run answer with status 0. -/
theorem commandErrorWritesNothing : Obligations.CommandErrorWritesNothing := by
  refine ⟨fun s c rest e hport herror => ?turnedAway, exec_next⟩
  case turnedAway =>
    rw [step_of_decode_error hport herror]
    cases e <;> rfl

/-! ## What follows a command error (R204) -/

/-- An answer hides the error status before it, and no command reads either (R33). -/
theorem exec_raiseCommandError (i : Instr) (e : CommandError) (s : State) :
    exec i (s.raiseCommandError e) = exec i s :=
  calc exec i (s.raiseCommandError e)
    _ = exec i ((s.raiseCommandError e).respond 0#32) := (exec_respond i _ _).symm
    _ = exec i (s.respond 0#32) := rfl
    _ = exec i s := exec_respond i _ s

/-- No input finds out that a command was turned away before it. -/
theorem runInput_raiseCommandError (x : Input) (e : CommandError) (s : State) :
    runInput x (s.raiseCommandError e) = runInput x s := by
  cases x with
  | resetInput => rfl
  | command c =>
    change runCommand c (s.raiseCommandError e) = runCommand c s
    cases hdecode : decode c with
    | error e' => rw [runCommand_error c e' _ hdecode, runCommand_error c e' _ hdecode]; rfl
    | ok i => rw [runCommand_ok c i _ hdecode, runCommand_ok c i _ hdecode, exec_raiseCommandError]

/-- With something at the port the error of the command before it does not change the step. -/
theorem step_raiseCommandError {s : State} {x : Input} {rest : List Input} (e : CommandError)
    (hport : s.input = x :: rest) : step (s.raiseCommandError e) = step s := by
  have hport' : (s.raiseCommandError e).input = x :: rest := hport
  rw [step_of_input_cons hport, step_of_input_cons hport']
  exact runInput_raiseCommandError x e { s with input := rest }

/-! ## Runs of a machine, one step at a time -/

theorem run_succ_of_step {M : Host.Core} {s t : M.State} (hstep : M.step s = .next t) (k : Nat) :
    M.run (k + 1) s = M.run k t := by
  simp only [Host.Core.run, hstep]

theorem run_one (M : Host.Core) (s : M.State) : M.run 1 s = M.step s := by
  cases hstep : M.step s <;> simp only [Host.Core.run, hstep]

theorem run_two_of_step {M : Host.Core} {s t : M.State} (hstep : M.step s = .next t) : M.run 2 s = M.step t :=
  (run_succ_of_step hstep 1).trans (run_one M t)

/-- Settles O5: the first step is the error, which writes only the response, and the second one does not see it. -/
theorem errorLeavesNoTrace : Obligations.ErrorLeavesNoTrace := by
  intro s bad e next rest herror hport
  have hstep : step s = .next (State.raiseCommandError e { s with input := next :: rest }) :=
    step_of_decode_error hport herror
  have hunseen : step (State.raiseCommandError e { s with input := next :: rest }) =
      step { s with input := next :: rest } := step_raiseCommandError e rfl
  refine ⟨⟨_, hstep, ⟨⟨rfl, rfl, rfl, rfl⟩, rfl, rfl, rfl, rfl⟩, rfl⟩, ?follows⟩
  case follows => exact (run_two_of_step (M := Sys2Proof.core) hstep).trans hunseen

end Sys2Proof.Machine
end

/-! # The two resets -/
section

namespace Sys2Proof.Machine

/-! ## Power-on reset (R230) -/

theorem step_of_resetInput {s : State} {rest : List Input} (hport : s.input = .resetInput :: rest) :
    step s = .next (State.powerOnReset { s with input := rest }) :=
  step_of_input_cons hport

/-- Settles O1: the step is power-on reset, which writes each of the registers, as does the state after reset. -/
theorem powerOnResetRegisters : Obligations.PowerOnResetRegisters := by
  refine ⟨fun s rest hport => ⟨_, step_of_resetInput hport, ?registers⟩, ?reset⟩
  case registers =>
    exact ⟨State.powerOnReset_state _, State.powerOnReset_clickCount _, State.powerOnReset_stepCount _,
      State.powerOnReset_stableLevel _, State.powerOnReset_dbCandidate _, State.powerOnReset_dbPending _,
      State.powerOnReset_dbTimestamp _, State.powerOnReset_stateEnteredAt _⟩
  case reset => exact ⟨rfl, rfl, rfl, rfl, rfl, rfl, rfl, rfl⟩

/-! ## RESET with the button held (R247) -/

/-- A TICK whose evaluation moves the machine has the changed bit 1 (R143). -/
theorem exec_tick_of_move {level : Level} {now : Word} {s d p : State} (hd : debounce level now s = d)
    (hp : poll d.stableLevel now d = p) (hne : p.state ≠ d.state) :
    exec (.tick level now) s = .next (p.respond (tickResult d.stableLevel true)) := by
  have hchanged : changed d p = true := by simp [changed, hne]
  rw [exec_tick level now s hd, hp, hchanged]

/-- From Idle with the level held the filter has nothing to settle, and the machine enters Press at once (R100, R123). -/
theorem exec_tick_idle_held {s : State} (now : Word) (hs : s.state = .idle) (hheld : s.stableLevel = true) :
    exec (.tick true now) s =
      .next { s with state := .press, dbCandidate := true, dbPending := false, response := okResponse 3#32 } := by
  have hd : debounce true now s = s.clearPending true := debounce_of_eq true now s hheld.symm
  have hidle : (s.clearPending true).state = .idle := hs
  have hp : poll s.stableLevel now (s.clearPending true) = { s.clearPending true with state := .press } :=
    (poll_idle s.stableLevel now hidle).trans (if_pos hheld)
  have hne : Gesture.press ≠ (s.clearPending true).state := by simp [hs]
  have hresult : tickResult (s.clearPending true).stableLevel true = 3#32 := by simp [hheld, tickResult]
  rw [exec_tick_of_move hd hp hne, hresult]
  rfl

/-- Settles O34: RESET keeps the stable level, so POLL and TICK both find the button held in Idle. -/
theorem heldButtonPressesAgainAfterReset : Obligations.HeldButtonPressesAgainAfterReset := by
  intro s now hheld
  obtain ⟨hreset, -⟩ := resetClearsGestureState s
  exact ⟨_, _, _, hreset, rfl, hheld, exec_poll_idle_pressed rfl rfl, rfl, rfl,
    exec_tick_idle_held now rfl hheld, rfl, hheld, rfl⟩

end Sys2Proof.Machine
end

/-! # The decoder and the encoder -/
section

namespace Sys2Proof

/-! ## Opcodes (R74 to R76) -/

/-- The six reserved opcodes (R76). -/
def reservedOpcodes : List (BitVec 5) := [0x05#5, 0x06#5, 0x07#5, 0x0F#5, 0x1B#5, 0x1F#5]

theorem opcode_notMem_reservedOpcodes (i : Instr) : i.opcode ∉ reservedOpcodes := by
  cases i <;> simp [Instr.opcode, reservedOpcodes]

theorem takesLevel_iff_opcode (i : Instr) : i.takesLevel = true ↔ i.opcode ∈ [0x01#5, 0x02#5, 0x03#5] := by
  cases i <;> simp [Instr.opcode, Instr.takesLevel]

theorem takesQualifier_iff_opcode (i : Instr) :
    i.takesQualifier = true ↔ 0x10 ≤ i.opcode.toNat ∧ i.opcode.toNat ≤ 0x18 := by
  cases i <;> simp [Instr.opcode, Instr.takesQualifier]

theorem takesTime_iff_opcode (i : Instr) :
    i.takesTime = true ↔
      i.opcode ∈ [0x01#5, 0x02#5, 0x03#5, 0x0C#5, 0x0D#5, 0x0E#5, 0x1C#5, 0x1D#5, 0x1E#5] := by
  cases i <;> simp [Instr.opcode, Instr.takesTime]

theorem takesArg_iff_opcode (i : Instr) : i.takesArg = true ↔ i.opcode ∈ [0x1C#5, 0x1D#5, 0x1E#5] := by
  cases i <;> simp [Instr.opcode, Instr.takesArg]

section

variable {op : BitVec 5} {l : Level} {nv : Bool} {n : Byte} {time arg : Word} {i : Instr}

theorem opcode_of_instrOfOpcode (h : instrOfOpcode op l nv n time arg = some i) : i.opcode = op := by
  unfold instrOfOpcode at h
  split at h <;> cases h <;> rfl

/-- Whether an opcode is assigned does not depend on the operands beside it. -/
theorem instrOfOpcode_opcode_isSome (i : Instr) : (instrOfOpcode i.opcode l nv n time arg).isSome = true := by
  cases i <;> rfl

theorem instrOfOpcode_eq_none_iff : instrOfOpcode op l nv n time arg = none ↔ op ∈ reservedOpcodes := by
  have hassigned : ∀ op, op ∉ reservedOpcodes → (instrOfOpcode op false false 0#8 0#32 0#32).isSome = true := by
    decide
  refine ⟨fun hnone => ?reserved, fun hmem => ?none⟩
  case reserved =>
    by_contra hmem
    obtain ⟨i, hi⟩ := Option.isSome_iff_exists.mp (hassigned op hmem)
    obtain rfl : i.opcode = op := opcode_of_instrOfOpcode hi
    simpa [hnone] using instrOfOpcode_opcode_isSome (l := l) (nv := nv) (n := n) (time := time) (arg := arg) i
  case none =>
    refine Option.eq_none_iff_forall_ne_some.mpr fun i hi => opcode_notMem_reservedOpcodes i ?_
    rwa [opcode_of_instrOfOpcode hi]

/-- A command is what its opcode and its operands make. -/
theorem instrOfOpcode_of_operands (h : i.operands = (l, nv, n, time, arg)) :
    instrOfOpcode i.opcode l nv n time arg = some i := by
  cases i <;> cases h <;> rfl

end

/-! ## The operands a command may have (R74, R77) -/

/-- What the checks of R78 ask of the fields of a command whose opcode stands for `i`. -/
structure OperandsFit (i : Instr) (l : Level) (nv : Bool) (n : Byte) (time arg : Word) : Prop where
  level : l = true → i.takesLevel = true
  qualifier : nv = true → i.takesQualifier = true
  count : nv = false → n = 0#8
  time : time ≠ 0#32 → i.takesTime = true
  arg : arg ≠ 0#32 → i.takesArg = true

theorem qualifierWf_iff (nv : Bool) (n : Byte) : qualifierWf nv n = true ↔ (nv = false → n = 0#8) := by
  cases nv <;> simp [qualifierWf]

section

variable {op : BitVec 5} {l : Level} {nv : Bool} {n : Byte} {time arg : Word} {i : Instr}

/-- A term is well-formed exactly when its own operands fit it. -/
theorem wellFormed_iff_operandsFit (h : i.operands = (l, nv, n, time, arg)) :
    i.wellFormed = true ↔ OperandsFit i l nv n time arg := by
  have hunused : (l = true → i.takesLevel = true) ∧ (nv = true → i.takesQualifier = true) ∧
      (time ≠ 0#32 → i.takesTime = true) ∧ (arg ≠ 0#32 → i.takesArg = true) := by
    cases i <;> cases h <;> simp [Instr.takesLevel, Instr.takesQualifier, Instr.takesTime, Instr.takesArg]
  have hcount : i.wellFormed = true ↔ (nv = false → n = 0#8) := by
    cases i <;> cases h <;> simp [Instr.wellFormed, qualifierWf_iff]
  obtain ⟨hl, hnv, ht, ha⟩ := hunused
  exact ⟨fun hwf => ⟨hl, hnv, hcount.mp hwf, ht, ha⟩, fun hfit => hcount.mpr hfit.count⟩

/-- Where the fields fit, none of them is lost in the command. -/
theorem operands_of_operandsFit (h : instrOfOpcode op l nv n time arg = some i)
    (hfit : OperandsFit i l nv n time arg) : i.operands = (l, nv, n, time, arg) := by
  obtain ⟨hl, hnv, hn, ht, ha⟩ := hfit
  unfold instrOfOpcode at h
  split at h <;> cases h <;>
    simp_all [Instr.takesLevel, Instr.takesQualifier, Instr.takesTime, Instr.takesArg, Instr.operands]

end

/-! ## The decoder (R78, R203) -/

/-- Everything the decoder can do: the reserved opcode, the misused qualifier, a field that has to be 0 and is not, or
the command whose fields all fit. -/
theorem decode_cases (c : Command) :
    (c.op ∈ reservedOpcodes ∧ decode c = .error .illegalOpcode) ∨
    ∃ i, instrOfOpcode c.op c.level c.qualValid c.count c.w1 c.w2 = some i ∧
      ((c.qualValid = true ∧ i.takesQualifier = false ∧ decode c = .error .qualifierNotAllowed) ∨
       ((c.qualValid = true → i.takesQualifier = true) ∧
         (c.reservedBitSet = false → ¬ OperandsFit i c.level c.qualValid c.count c.w1 c.w2) ∧
         decode c = .error .reservedField) ∨
       (c.reservedBitSet = false ∧ OperandsFit i c.level c.qualValid c.count c.w1 c.w2 ∧ decode c = .ok i)) := by
  unfold decode
  split
  case h_1 hnone => exact .inl ⟨instrOfOpcode_eq_none_iff.mp hnone, rfl⟩
  case h_2 i hi =>
    refine .inr ⟨i, hi, ?_⟩
    by_cases hmisused : (c.qualValid && !i.takesQualifier) = true
    · rw [if_pos hmisused]
      exact .inl ⟨by simp_all, by simp_all, rfl⟩
    · have hnv : c.qualValid = true → i.takesQualifier = true := by simpa using hmisused
      rw [if_neg hmisused]
      refine .inr ?_
      split_ifs with hreserved hlevel hcount htime harg
      · exact .inl ⟨hnv, by simp [hreserved], rfl⟩
      · exact .inl ⟨hnv, fun _ hfit => by have := hfit.level; simp_all, rfl⟩
      · exact .inl ⟨hnv, fun _ hfit => by have := hfit.count; simp_all, rfl⟩
      · exact .inl ⟨hnv, fun _ hfit => by have := hfit.time; simp_all, rfl⟩
      · exact .inl ⟨hnv, fun _ hfit => by have := hfit.arg; simp_all, rfl⟩
      · exact .inr ⟨by simpa using hreserved, ⟨by simpa using hlevel, hnv, by simpa using hcount,
          by simpa using htime, by simpa using harg⟩, rfl⟩

/-- The bits of a field that is 0 are 0. -/
theorem getLsbD_of_extractLsb'_eq_zero {w start len i : Nat} {x : BitVec w} (h : x.extractLsb' start len = 0#len)
    (hlow : start ≤ i) (hhigh : i < start + len) : x.getLsbD i = false := by
  have hbit := congrArg (fun y => y.getLsbD (i - start)) h
  simpa [BitVec.getLsbD_extractLsb', show i - start < len by omega, show start + (i - start) = i by omega] using hbit

/-- The fields of a command make its control word, where the reserved bits are 0 (R71). -/
theorem controlWord_fields (c : Command) (h : c.reservedBitSet = false) :
    controlWord c.op c.level c.qualValid c.count = c.w0 := by
  obtain ⟨h5, h10, h24⟩ :
      c.w0.extractLsb' 5 3 = 0#3 ∧ c.w0.extractLsb' 10 6 = 0#6 ∧ c.w0.extractLsb' 24 8 = 0#8 := by
    simpa [Command.reservedBitSet, and_assoc] using h
  apply BitVec.eq_of_getLsbD_eq
  intro i hi
  rw [controlWord_getLsbD]
  split_ifs with hop hlow hlevel hqual hmid
  · simp [Command.op, hop]
  · rw [getLsbD_of_extractLsb'_eq_zero h5 (by omega) (by omega)]
  · rw [hlevel, Command.level]
  · rw [hqual, Command.qualValid]
  · rw [getLsbD_of_extractLsb'_eq_zero h10 (by omega) (by omega)]
  · by_cases hcount : i < 24
    · simp [Command.count, show i - 16 < 8 by omega, show 16 + (i - 16) = i by omega]
    · rw [getLsbD_of_extractLsb'_eq_zero h24 (by omega) (by omega)]
      exact BitVec.getLsbD_of_ge _ _ (by omega)

/-- A command is an encoding exactly when its fields are the opcode and the operands, the reserved bits 0 (R71, R74). -/
theorem encode_eq_iff (i : Instr) (c : Command) :
    encode i = c ↔
      i.opcode = c.op ∧ i.operands = (c.level, c.qualValid, c.count, c.w1, c.w2) ∧ c.reservedBitSet = false := by
  constructor
  · rintro rfl
    obtain ⟨hop, hoperands, hreserved⟩ := encodedFields i
    exact ⟨hop.symm, hoperands.symm, hreserved⟩
  · rintro ⟨hop, hoperands, hreserved⟩
    simp only [encode, hoperands, hop, controlWord_fields c hreserved]

/-- Settles O11: both sides say that the opcode is that of `i`, and that the fields are its operands and fit it. -/
theorem decodeOkExactlyEncodings : Obligations.DecodeOkExactlyEncodings := by
  intro c i
  rw [encode_eq_iff]
  constructor
  · intro hok
    obtain ⟨-, herror⟩ | ⟨j, hj, ⟨-, -, herror⟩ | ⟨-, -, herror⟩ | ⟨hreserved, hfit, hdecode⟩⟩ := decode_cases c
    · cases hok.symm.trans herror
    · cases hok.symm.trans herror
    · cases hok.symm.trans herror
    · obtain rfl : j = i := by rw [hdecode] at hok; cases hok; rfl
      have hoperands := operands_of_operandsFit hj hfit
      exact ⟨(wellFormed_iff_operandsFit hoperands).mpr hfit, opcode_of_instrOfOpcode hj, hoperands, hreserved⟩
  · rintro ⟨hwf, hop, hoperands, hreserved⟩
    have hfit := (wellFormed_iff_operandsFit hoperands).mp hwf
    have hi := hop ▸ instrOfOpcode_of_operands hoperands
    obtain ⟨hmem, -⟩ | ⟨j, hj, hj'⟩ := decode_cases c
    · exact absurd (hop ▸ hmem) (opcode_notMem_reservedOpcodes i)
    · obtain rfl : j = i := Option.some.inj (hj.symm.trans hi)
      obtain ⟨hnv, hno, -⟩ | ⟨-, hnot, -⟩ | ⟨-, -, hdecode⟩ := hj'
      · rw [hfit.qualifier hnv] at hno
        cases hno
      · exact absurd hfit (hnot hreserved)
      · exact hdecode

/-- Settles O10, the round trip inside the characterisation of the encodings. -/
theorem decodeOfEncode : Obligations.DecodeOfEncode :=
  fun i hwf => (decodeOkExactlyEncodings (encode i) i).mpr ⟨hwf, rfl⟩

/-- Settles O12: no other check comes first, and no assigned opcode is reserved. -/
theorem illegalOpcodeExactly : Obligations.IllegalOpcodeExactly := by
  intro c
  change decode c = _ ↔ c.op ∈ reservedOpcodes
  obtain ⟨hmem, hdecode⟩ | ⟨i, hi, hdecode⟩ := decode_cases c
  · simp [hmem, hdecode]
  · have hmem : c.op ∉ reservedOpcodes := opcode_of_instrOfOpcode hi ▸ opcode_notMem_reservedOpcodes i
    obtain ⟨-, -, hdecode⟩ | ⟨-, -, hdecode⟩ | ⟨-, -, hdecode⟩ := hdecode <;> simp [hmem, hdecode]

/-- Settles O13: the check comes after that of the opcode and before all the others. -/
theorem qualifierNotAllowedExactly : Obligations.QualifierNotAllowedExactly := by
  intro c
  change decode c = _ ↔ c.op ∉ reservedOpcodes ∧ c.qualValid = true ∧ ¬ (0x10 ≤ c.op.toNat ∧ c.op.toNat ≤ 0x18)
  obtain ⟨hmem, hdecode⟩ | ⟨i, hi, hdecode⟩ := decode_cases c
  · simp [hmem, hdecode]
  · rw [← opcode_of_instrOfOpcode hi, ← takesQualifier_iff_opcode]
    have hmem := opcode_notMem_reservedOpcodes i
    obtain ⟨hnv, hno, hdecode⟩ | ⟨hnv, -, hdecode⟩ | ⟨-, hfit, hdecode⟩ := hdecode
    · simp [hmem, hdecode, hnv, hno]
    · simpa [hmem, hdecode] using hnv
    · simpa [hmem, hdecode] using hfit.qualifier

theorem reservedBitSet_iff (c : Command) :
    c.reservedBitSet = true ↔
      c.w0.extractLsb' 5 3 ≠ 0#3 ∨ c.w0.extractLsb' 10 6 ≠ 0#6 ∨ c.w0.extractLsb' 24 8 ≠ 0#8 := by
  simp [Command.reservedBitSet, or_assoc]

/-- A field check fails where some field that has to be 0 is not (R77). -/
theorem unfit_iff {c : Command} {i : Instr} (hnv : c.qualValid = true → i.takesQualifier = true) :
    (c.reservedBitSet = false → ¬ OperandsFit i c.level c.qualValid c.count c.w1 c.w2) ↔
      c.reservedBitSet = true ∨ (c.level = true ∧ ¬ i.takesLevel = true) ∨ (c.qualValid = false ∧ c.count ≠ 0#8) ∨
        (c.w1 ≠ 0#32 ∧ ¬ i.takesTime = true) ∨ (c.w2 ≠ 0#32 ∧ ¬ i.takesArg = true) := by
  have hfit : OperandsFit i c.level c.qualValid c.count c.w1 c.w2 ↔
      (c.level = true → i.takesLevel = true) ∧ (c.qualValid = false → c.count = 0#8) ∧
        (c.w1 ≠ 0#32 → i.takesTime = true) ∧ (c.w2 ≠ 0#32 → i.takesArg = true) :=
    ⟨fun h => ⟨h.level, h.count, h.time, h.arg⟩, fun ⟨hl, hn, ht, ha⟩ => ⟨hl, hnv, hn, ht, ha⟩⟩
  rw [hfit, ← Bool.not_eq_true, ← or_iff_not_imp_left]
  simp only [Classical.not_and_iff_not_or_not, Classical.not_imp, ne_eq]

/-- Settles O14: with an assigned opcode and no misused qualifier, the remaining checks are those of the fields. -/
theorem reservedFieldExactly : Obligations.ReservedFieldExactly := by
  intro c
  change decode c = _ ↔
    (c.op ∉ reservedOpcodes ∧ (c.qualValid = true → 0x10 ≤ c.op.toNat ∧ c.op.toNat ≤ 0x18)) ∧
    (_ ∨ _ ∨ _ ∨ (c.level = true ∧ c.op ∉ _) ∨ (c.qualValid = false ∧ c.count ≠ 0#8) ∨ (c.w1 ≠ 0#32 ∧ c.op ∉ _) ∨
      (c.w2 ≠ 0#32 ∧ c.op ∉ _))
  obtain ⟨hmem, hdecode⟩ | ⟨i, hi, hdecode⟩ := decode_cases c
  · simp [hmem, hdecode]
  · have hmem := opcode_notMem_reservedOpcodes i
    rw [← opcode_of_instrOfOpcode hi, ← takesQualifier_iff_opcode, ← takesLevel_iff_opcode, ← takesTime_iff_opcode,
      ← takesArg_iff_opcode, ← or_assoc, ← or_assoc, or_assoc (a := _ ≠ _), ← reservedBitSet_iff]
    obtain ⟨hnv, hno, hdecode⟩ | ⟨hnv, hunfit, hdecode⟩ | ⟨hreserved, hfit, hdecode⟩ := hdecode
    · simp [hdecode, hnv, hno]
    · exact iff_of_true hdecode ⟨⟨hmem, hnv⟩, (unfit_iff hnv).mp hunfit⟩
    · rw [← unfit_iff hfit.qualifier, hdecode]
      exact iff_of_false nofun fun ⟨_, hunfit⟩ => hunfit hreserved hfit

end Sys2Proof
end

/-! # Words, bytes and assembler operands -/
section

namespace Sys2Proof

/-! ## The words of every command (R84) -/

theorem encode_eq_controlWord {i : Instr} {l : Level} {nv : Bool} {n : Byte} {time arg : Word}
    (hops : i.operands = (l, nv, n, time, arg)) : encode i = ⟨controlWord i.opcode l nv n, time, arg⟩ := by
  simp only [encode, hops]

/-- The words of a command with the level 1 (R71, R74). -/
theorem encode_pressed {i : Instr} {time : Word} (hops : i.operands = (true, false, 0#8, time, 0#32)) :
    encode i = ⟨i.opcode.setWidth 32 ||| 0x100#32, time, 0#32⟩ := by
  have hword : ∀ op : BitVec 5, controlWord op true false 0#8 = op.setWidth 32 ||| 0x100#32 := by decide
  rw [encode_eq_controlWord hops, hword]

/-- The control word of a qualified event query, field by field (R71). -/
theorem controlWord_qualified (op : BitVec 5) (n : Byte) :
    controlWord op false true n = op.setWidth 32 ||| 0x200#32 ||| (n.setWidth 32 <<< 16) := by
  apply BitVec.eq_of_getLsbD_eq
  intro i hi
  have hnine : (0x200#32).getLsbD i = decide (i = 9) := by
    revert i; decide
  have hop : 5 ≤ i → op.getLsbD i = false := BitVec.getLsbD_of_ge op i
  rw [controlWord_getLsbD, BitVec.getLsbD_or, BitVec.getLsbD_or, hnine, BitVec.getLsbD_setWidth,
    BitVec.getLsbD_shiftLeft, BitVec.getLsbD_setWidth]
  split_ifs with h5 h8 h8' h9 h16
  · simp [hi, show i ≠ 9 by omega, show i < 16 by omega]
  · simp [hop (by omega), show i ≠ 9 by omega, show i < 16 by omega]
  · simp [hop (by omega), show i ≠ 9 by omega, show i < 16 by omega]
  · simp [h9]
  · simp [hop (by omega), h9, h16]
  · simp [hop (by omega), h9, h16, hi, show i - 16 < 32 by omega]

/-- The words of a qualified event query (R71, R74). -/
theorem encode_qualified {i : Instr} {n : Byte} (hops : i.operands = (false, true, n, 0#32, 0#32)) :
    encode i = ⟨i.opcode.setWidth 32 ||| 0x200#32 ||| (n.setWidth 32 <<< 16), 0#32, 0#32⟩ := by
  rw [encode_eq_controlWord hops, controlWord_qualified]

/-- Settles O15: the control word of each command by the form of its operands. -/
theorem encodingWords : Obligations.EncodingWords := by
  refine ⟨?plain, ?levels, ?times, ?events, ?predicates⟩ <;> simp only [List.forall_mem_cons]
  case plain =>
    refine ⟨?_, ?_, ?_, ?_, ?_, ?_, ?_, ?_, nofun⟩ <;> exact Machine.encode_of_operands rfl
  case levels =>
    refine ⟨?_, ?_, ?_, nofun⟩ <;> exact fun time => ⟨Machine.encode_of_operands rfl, encode_pressed rfl⟩
  case times => refine ⟨?_, ?_, ?_, nofun⟩ <;> exact fun time => Machine.encode_of_operands rfl
  case events =>
    refine ⟨?_, ?_, ?_, ?_, ?_, ?_, ?_, ?_, ?_, nofun⟩ <;>
      exact fun n => ⟨Machine.encode_of_operands rfl, encode_qualified rfl⟩
  case predicates => refine ⟨?_, ?_, ?_, nofun⟩ <;> exact fun time ms => Machine.encode_of_operands rfl

/-- Settles O16: the words are encodings. -/
theorem sampleWordsDecode : Obligations.SampleWordsDecode := by
  refine ⟨?_, ?_, ?_, ?_, ?_, ?_, ?_, ?_⟩ <;> exact (decodeOkExactlyEncodings _ _).mpr ⟨rfl, rfl⟩

/-! ## The byte transport (R52, R53) -/

/-- Four bytes of a word make the word again (R52). -/
theorem wordOfBytes_wordBytes (w : Word) :
    wordOfBytes (w.extractLsb' 0 8) (w.extractLsb' 8 8) (w.extractLsb' 16 8) (w.extractLsb' 24 8) = w := by
  have glue (start₁ len₁ start₂ len₂ : Nat) (h : start₂ = start₁ + len₁) :=
    BitVec.extractLsb'_append_extractLsb'_eq_extractLsb' (x := w) (len₂ := len₂) h
  rw [wordOfBytes, glue 16 8 24 8 rfl, glue 8 8 16 16 rfl, glue 0 8 8 24 rfl]
  exact BitVec.extractLsb'_eq_self

/-- The twelve bytes of a command come out as that command, whatever follows them (R52). -/
theorem commandsOfBytes_bytes_append (c : Command) (rest : List Byte) :
    commandsOfBytes (c.bytes ++ rest) = c :: commandsOfBytes rest := by
  simp only [Command.bytes, wordBytes, List.cons_append, List.nil_append, commandsOfBytes, wordOfBytes_wordBytes]

/-- Fewer than twelve bytes are no command (R53). -/
theorem commandsOfBytes_of_length_lt {tail : List Byte} (h : tail.length < 12) : commandsOfBytes tail = [] := by
  unfold commandsOfBytes
  split
  · simp at h
    omega
  · rfl

theorem commandsOfBytes_flatMap_append {tail : List Byte} (h : tail.length < 12) (cs : List Command) :
    commandsOfBytes (cs.flatMap Command.bytes ++ tail) = cs := by
  induction cs with
  | nil => exact commandsOfBytes_of_length_lt h
  | cons c cs ih => rw [List.flatMap_cons, List.append_assoc, commandsOfBytes_bytes_append, ih]

/-- Settles O17: the framing gives the commands back, and they are put behind what waits. -/
theorem transportDeliversWholeCommands : Obligations.TransportDeliversWholeCommands := by
  intro cs tail s htail
  simp only [Machine.State.deliverBytes, Machine.State.deliver, commandsOfBytes_flatMap_append htail]

/-- A word is the weighted sum of its bytes, bits 7:0 first (R52). -/
theorem toNat_eq_sum_bytes (w : Word) :
    w.toNat = (w.extractLsb' 0 8).toNat + 256 * (w.extractLsb' 8 8).toNat + 65536 * (w.extractLsb' 16 8).toNat +
      16777216 * (w.extractLsb' 24 8).toNat := by
  simp only [BitVec.extractLsb'_toNat, Nat.shiftRight_eq_div_pow]
  have := w.isLt
  omega

/-- Settles O18: the result goes as its bytes, and the status is zero-extended. -/
theorem responseBytesLittleEndian : Obligations.ResponseBytesLittleEndian := by
  intro r
  refine ⟨_, _, _, _, _, rfl, toNat_eq_sum_bytes r.result, ?status⟩
  case status => exact (BitVec.toNat_append 0#6 r.status).trans (by simp)

/-! ## The assembler (R82, R83) -/

theorem levelOperand_toNat (l : Level) : levelOperand l.toNat = some l := by
  cases l <;> rfl

theorem wordOperand_toNat (w : Word) : wordOperand w.toNat = some w := by
  rw [wordOperand, if_pos w.isLt, BitVec.ofNat_toNat, BitVec.setWidth_eq]

theorem countOperand_toNat (n : Byte) : countOperand n.toNat = some n := by
  rw [countOperand, if_pos n.isLt, BitVec.ofNat_toNat, BitVec.setWidth_eq]

theorem build_levelTime (f : Level → Word → Instr) (l : Level) (time : Word) :
    (AsmForm.levelTime f).build [.number l.toNat, .number time.toNat] = some (f l time) := by
  simp only [AsmForm.build, levelOperand_toNat, wordOperand_toNat]

theorem build_time (f : Word → Instr) (time : Word) :
    (AsmForm.time f).build [.number time.toNat] = some (f time) := by
  simp only [AsmForm.build, wordOperand_toNat, Option.map_some]

theorem build_timeMs (f : Word → Word → Instr) (time ms : Word) :
    (AsmForm.timeMs f).build [.number time.toNat, .number ms.toNat] = some (f time ms) := by
  simp only [AsmForm.build, wordOperand_toNat]

theorem build_event (f : Bool → Byte → Instr) {nv : Bool} {n : Byte} (hwf : qualifierWf nv n = true) :
    (AsmForm.event f).build (if nv then [.qualifier n.toNat] else []) = some (f nv n) := by
  cases nv with
  | true => simp [AsmForm.build, countOperand_toNat]
  | false => simp [AsmForm.build, (qualifierWf_iff _ _).mp hwf rfl]

theorem assemble_eq_build {mnemonic : String} {form : AsmForm} (h : asmForms.lookup mnemonic = some form)
    (ops : List AsmOperand) : assemble mnemonic ops = form.build ops := by
  rw [assemble, h]

/-- Settles O19: the form listed for each mnemonic builds the command from the operands it is written with. -/
theorem assemblerReadsWhatIsWritten : Obligations.AssemblerReadsWhatIsWritten := by
  refine ⟨fun i hwf => ?written, fun n => ⟨?pressed, ?released⟩⟩
  case written =>
    cases i with
    | tick | debounce | poll => exact (assemble_eq_build rfl _).trans (build_levelTime _ _ _)
    | getPressTime | getHoldTime | getStepTime => exact (assemble_eq_build rfl _).trans (build_time _ _)
    | pressFor | holdFor | stepFor => exact (assemble_eq_build rfl _).trans (build_timeMs _ _ _)
    | nop | reset | getState | getClicks | getSteps | getLevel | isEvent | isPressing =>
      exact assemble_eq_build (form := .plain _) rfl []
    | _ => exact (assemble_eq_build rfl _).trans (build_event _ hwf)
  case pressed =>
    rw [assemble_eq_build (form := .time (Instr.tick true)) rfl, assemble_eq_build (form := .levelTime Instr.tick) rfl]
    cases h : wordOperand n <;> simp [AsmForm.build, levelOperand, h]
  case released =>
    rw [assemble_eq_build (form := .time (Instr.tick false)) rfl, assemble_eq_build (form := .levelTime Instr.tick) rfl]
    cases h : wordOperand n <;> simp [AsmForm.build, levelOperand, h]

end Sys2Proof
end

/-! # What each command writes -/
section

namespace Sys2Proof.Machine

/-! ## The effect of a command (R142 to R145, R160) -/

/-- Everything a command can do to a state: evaluate the machine, sample the filter, both, clear the gesture state, or
only answer. -/
inductive CommandEffect (s : State) : Instr → State → Prop
  | poll (l : Level) (now r : Word) : CommandEffect s (.poll l now) ((poll l now s).respond r)
  | tick (l : Level) (now r : Word) :
    CommandEffect s (.tick l now) ((Machine.poll (debounce l now s).stableLevel now (debounce l now s)).respond r)
  | debounce (l : Level) (now r : Word) : CommandEffect s (.debounce l now) ((debounce l now s).respond r)
  | reset (r : Word) : CommandEffect s .reset (s.clearGesture.respond r)
  | nop (r : Word) : CommandEffect s .nop (s.respond r)
  | query {i : Instr} (hquery : isQuery i = true) (r : Word) : CommandEffect s i (s.respond r)

section

variable {i : Instr} {s t : State}

theorem commandEffect_of_exec (h : exec i s = .next t) : CommandEffect s i t := by
  cases i with
  | poll l now => cases h; exact .poll l now _
  | tick l now => cases h; exact .tick l now _
  | debounce l now => cases h; exact .debounce l now _
  | reset => cases h; exact .reset _
  | nop => cases h; exact .nop _
  | _ => cases h; exact .query rfl _

/-- No command touches the thresholds (R29). -/
theorem exec_cfg (h : exec i s = .next t) : t.cfg = s.cfg := by
  cases commandEffect_of_exec h <;> simp

/-- No command touches what waits at the port (R57). -/
theorem exec_input (h : exec i s = .next t) : t.input = s.input := by
  cases commandEffect_of_exec h <;> simp

/-! ## The gesture machine does not see the filter (R106, R142) -/

theorem sameGesture_poll_debounce (level raw : Level) (now time : Word) (s : State) :
    SameGesture (poll level now (debounce raw time s)) (poll level now s) := by
  have hstate : (poll level now (debounce raw time s)).state = (poll level now s).state := by
    simp only [poll_state, debounce_state, debounce_clickCount, debounce_stateEnteredAt, debounce_cfg]
  obtain ⟨hclicks, hsteps, hentered⟩ := poll_counts level now s
  obtain ⟨hclicks', hsteps', hentered'⟩ := poll_counts level now (debounce raw time s)
  refine ⟨hstate, ?_, ?_, ?_⟩
  · rw [hclicks, hclicks', debounce_state, debounce_clickCount]
  · rw [hsteps, hsteps', debounce_state, debounce_stepCount, hstate]
  · rw [hentered, hentered', debounce_state, debounce_stateEnteredAt, hstate]

/-- What a command does to the gesture registers: POLL and TICK evaluate the machine once, at some level; RESET clears;
the others write none of them. -/
theorem gesture_cases (h : exec i s = .next t) :
    (∃ l now level, (i = .poll l now ∨ i = .tick l now) ∧ SameGesture t (poll level now s)) ∨
    (i = .reset ∧ SameGesture t s.clearGesture) ∨
    ((∀ l now, i ≠ .poll l now ∧ i ≠ .tick l now) ∧ i ≠ .reset ∧ SameGesture t s) := by
  cases commandEffect_of_exec h with
  | poll l now r => exact .inl ⟨l, now, l, .inl rfl, rfl, rfl, rfl, rfl⟩
  | tick l now r => exact .inl ⟨l, now, _, .inr rfl, sameGesture_poll_debounce _ l now now s⟩
  | reset r => exact .inr (.inl ⟨rfl, rfl, rfl, rfl, rfl⟩)
  | debounce l now r =>
    exact .inr (.inr ⟨by simp, by simp, debounce_state .., debounce_clickCount .., debounce_stepCount ..,
      debounce_stateEnteredAt ..⟩)
  | nop r => exact .inr (.inr ⟨by simp, by simp, rfl, rfl, rfl, rfl⟩)
  | query hquery r =>
    refine .inr (.inr ⟨?_, ?_, rfl, rfl, rfl, rfl⟩)
    · rintro l now
      constructor <;> (rintro rfl; cases hquery)
    · rintro rfl; cases hquery

end

/-- Settles O43: the effects leave alone what no operation in them writes. -/
theorem registerWriters : Obligations.RegisterWriters := by
  intro i s t h
  refine ⟨exec_cfg h, exec_input h, fun hpoll hreset => ?gesture, fun hsample => ?filter⟩
  case gesture =>
    obtain ⟨l, now, level, hi | hi, -⟩ | ⟨hi, -⟩ | ⟨-, -, hsame⟩ := gesture_cases h
    · exact absurd hi (hpoll l now).1
    · exact absurd hi (hpoll l now).2
    · exact absurd hi hreset
    · exact hsame
  case filter =>
    cases commandEffect_of_exec h with
    | debounce l now r => exact absurd rfl (hsample l now).1
    | tick l now r => exact absurd rfl (hsample l now).2
    | poll l now r => exact ⟨poll_stableLevel .., poll_dbCandidate .., poll_dbPending .., poll_dbTimestamp ..⟩
    | reset | nop | query => exact ⟨rfl, rfl, rfl, rfl⟩

/-! ## Moves along the table (R120, R146 to R149) -/
section

variable {i : Instr} {s t : State} {level : Level} {now : Word}

/-- A row that fires is a row of the present state. -/
theorem mem_sourceTable_of_mem_firingRows {r : TableRow} (hr : r ∈ firingRows level now s) :
    r ∈ sourceTable ∧ s.state = r.source := by
  obtain ⟨hmem, hfires⟩ := List.mem_filter.mp hr
  obtain ⟨hsource, -⟩ : s.state = r.source ∧ r.condition.holds level now s = true := by
    simpa [TableRow.fires] using hfires
  exact ⟨hmem, hsource⟩

/-- One evaluation writes nothing or applies one row of the present state. -/
theorem poll_eq_self_or_row (level : Level) (now : Word) (s : State) :
    poll level now s = s ∨ ∃ r ∈ sourceTable, s.state = r.source ∧ poll level now s = r.apply now s := by
  rw [poll_eq_first_firingRow]
  cases hrows : firingRows level now s with
  | nil => exact .inl rfl
  | cons r more =>
    obtain ⟨hmem, hsource⟩ := mem_sourceTable_of_mem_firingRows (hrows ▸ List.mem_cons_self)
    exact .inr ⟨r, hmem, hsource, rfl⟩

theorem poll_edge (hmove : (poll level now s).state ≠ s.state) :
    (s.state, (poll level now s).state) ∈ tableEdges := by
  obtain hstay | ⟨r, hr, hsource, hrow⟩ := poll_eq_self_or_row level now s
  · exact absurd (congrArg State.state hstay) hmove
  · rw [hrow, hsource]
    exact List.mem_map_of_mem hr

/-- Settles O38: an evaluation follows a row, RESET gives Idle, and the others keep the state. -/
theorem oneRowPerCommand : Obligations.OneRowPerCommand := by
  intro i s t h hmove
  obtain ⟨l, now, level, hi, hstate, -⟩ | ⟨hi, hstate, -⟩ | ⟨-, -, hstate, -⟩ := gesture_cases h
  · rw [hstate] at hmove ⊢
    exact .inr ⟨⟨l, now, hi⟩, poll_edge hmove⟩
  · exact .inl ⟨hi, hstate⟩
  · exact absurd hstate hmove

/-- The rows that reset the timer are those of the listed moves (R146). -/
theorem resetsTimer_iff_mem_timerEdges :
    ∀ r ∈ sourceTable, (r.resetsTimer = true ↔ (r.source, r.target) ∈ timerEdges) := by
  simp [sourceTable, timerEdges]

theorem poll_stateEnteredAt (level : Level) (now : Word) (s : State) :
    (poll level now s).stateEnteredAt =
      if (s.state, (poll level now s).state) ∈ timerEdges then now else s.stateEnteredAt := by
  obtain hstay | ⟨r, hr, hsource, hrow⟩ := poll_eq_self_or_row level now s
  · have hloop : ∀ g, (g, g) ∉ timerEdges := fun g => by cases g <;> decide
    rw [hstay, if_neg (hloop _)]
  · rw [hrow, hsource]
    exact if_congr (resetsTimer_iff_mem_timerEdges r hr) rfl rfl

/-- Settles O40: the timer is that of the row applied, and no row leads from a state to itself. -/
theorem timerWrittenByResetRowsOnly : Obligations.TimerWrittenByResetRowsOnly := by
  intro i s t h
  obtain ⟨l, now, level, hi, hstate, -, -, hentered⟩ | ⟨hi, -, -, -, hentered⟩ | ⟨hi, -, -, -, -, hentered⟩ :=
    gesture_cases h
  · refine ⟨fun l' now' hi' => ?_, fun hnone => ?_⟩
    · obtain rfl : now = now' := by
        obtain rfl | rfl := hi <;> simp_all
      rw [hentered, hstate, poll_stateEnteredAt]
    · obtain hi | hi := hi
      · exact absurd hi (hnone l now).1
      · exact absurd hi (hnone l now).2
  · subst hi
    exact ⟨by simp, fun _ => hentered⟩
  · exact ⟨fun l now hi' => absurd hi' (by simp [hi l now]), fun _ => hentered⟩

/-! ## The counters (R22, R23, R39) -/

/-- What the rows of the table do to `clickCount`, with their moves (R125, R133, R138). -/
theorem sourceTable_clicks :
    ∀ r ∈ sourceTable, r.clicks = .keep ∨ (r.clicks = .count ∧ r.source = .waitHold ∧ r.target = .click) ∨
      (r.clicks = .clear ∧ (((r.source = .releaseHold ∨ r.source = .releaseStep) ∧ r.target = .release) ∨
        (r.source = .clicks ∧ r.target = .waitTimeout))) := by
  simp [sourceTable]

/-- What the rows of the table do to `stepCount`, with their moves (R132, R135). -/
theorem sourceTable_steps :
    ∀ r ∈ sourceTable, r.steps = .keep ∨ (r.steps = .count ∧ r.source = .waitNextStep ∧ r.target = .step) ∨
      (r.steps = .clear ∧ r.source = .release ∧ (r.target = .waitClicks ∨ r.target = .waitTimeout)) := by
  simp [sourceTable]

theorem toNat_apply_count (c : Byte) : (CounterEffect.count.apply c).toNat = min (c.toNat + 1) 255 := by
  simp only [CounterEffect.apply, BitVec.toNat_ofNat]
  omega

theorem poll_clickCount_cases (level : Level) (now : Word) (s : State) :
    (poll level now s).clickCount = s.clickCount ∨
    (s.state = .waitHold ∧ (poll level now s).state = .click ∧
      (poll level now s).clickCount.toNat = min (s.clickCount.toNat + 1) 255) ∨
    ((poll level now s).clickCount = 0#8 ∧
      (((s.state = .releaseHold ∨ s.state = .releaseStep) ∧ (poll level now s).state = .release) ∨
        (s.state = .clicks ∧ (poll level now s).state = .waitTimeout))) := by
  obtain hstay | ⟨r, hr, hsource, hrow⟩ := poll_eq_self_or_row level now s
  · exact .inl (by rw [hstay])
  · rw [hrow, hsource]
    obtain hkeep | ⟨hcount, hmove⟩ | ⟨hclear, hmove⟩ := sourceTable_clicks r hr
    · exact .inl (by simp [TableRow.apply, hkeep, CounterEffect.apply])
    · exact .inr (.inl ⟨hmove.1, hmove.2, by simp only [TableRow.apply, hcount, toNat_apply_count]⟩)
    · exact .inr (.inr ⟨by simp [TableRow.apply, hclear, CounterEffect.apply], hmove⟩)

theorem poll_stepCount_cases (level : Level) (now : Word) (s : State) :
    (poll level now s).stepCount = s.stepCount ∨
    (s.state = .waitNextStep ∧ (poll level now s).state = .step ∧
      (poll level now s).stepCount.toNat = min (s.stepCount.toNat + 1) 255) ∨
    ((poll level now s).stepCount = 0#8 ∧ s.state = .release ∧
      ((poll level now s).state = .waitClicks ∨ (poll level now s).state = .waitTimeout)) := by
  obtain hstay | ⟨r, hr, hsource, hrow⟩ := poll_eq_self_or_row level now s
  · exact .inl (by rw [hstay])
  · rw [hrow, hsource]
    obtain hkeep | ⟨hcount, hmove⟩ | ⟨hclear, hmove⟩ := sourceTable_steps r hr
    · exact .inl (by simp [TableRow.apply, hkeep, CounterEffect.apply])
    · exact .inr (.inl ⟨hmove.1, hmove.2, by simp only [TableRow.apply, hcount, toNat_apply_count]⟩)
    · exact .inr (.inr ⟨by simp [TableRow.apply, hclear, CounterEffect.apply], hmove⟩)

/-- Settles O42: an evaluation does what its row says to each counter, and RESET clears both. -/
theorem countersChangeOnlyByTheirRows : Obligations.CountersChangeOnlyByTheirRows := by
  intro i s t h
  obtain ⟨l, now, level, hi, hstate, hclicks, hsteps, -⟩ | ⟨hi, -, hclicks, hsteps, -⟩ |
    ⟨-, -, -, hclicks, hsteps, -⟩ := gesture_cases h
  · rw [hstate, hclicks, hsteps]
    constructor
    · obtain hkeep | hcount | ⟨hzero, hmove⟩ := poll_clickCount_cases level now s
      · exact .inl hkeep
      · exact .inr (.inl hcount)
      · exact .inr (.inr ⟨hzero, .inr ⟨⟨l, now, hi⟩, hmove⟩⟩)
    · obtain hkeep | hcount | ⟨hzero, hmove⟩ := poll_stepCount_cases level now s
      · exact .inl hkeep
      · exact .inr (.inl hcount)
      · exact .inr (.inr ⟨hzero, .inr ⟨⟨l, now, hi⟩, hmove⟩⟩)
  · exact ⟨.inr (.inr ⟨hclicks, .inl hi⟩), .inr (.inr ⟨hsteps, .inl hi⟩)⟩
  · exact ⟨.inl hclicks, .inl hsteps⟩

end

/-! ## One evaluation out of an event state (R147) -/

theorem tickResult_moved (stable : Bool) : tickResult stable true = 1#32 ∨ tickResult stable true = 3#32 := by
  cases stable
  · exact .inl rfl
  · exact .inr rfl

/-- Settles O37: the evaluation of POLL and TICK leaves an event state, RESET gives Idle, the others keep the state. -/
theorem eventStateLastsOnePoll : Obligations.EventStateLastsOnePoll := by
  intro s t i hevent h
  refine ⟨?poll, ?tick, ?reset, ?others⟩
  case poll =>
    rintro l now rfl
    have hmove := poll_state_ne_of_event l now hevent
    rw [exec_poll_of_move rfl rfl hmove] at h
    cases h
    exact ⟨hmove, rfl⟩
  case tick =>
    rintro l now rfl
    obtain ⟨d, hd⟩ : ∃ d, debounce l now s = d := ⟨_, rfl⟩
    have hkept : d.state = s.state := hd ▸ debounce_state l now s
    have hmove := poll_state_ne_of_event d.stableLevel now (hkept ▸ hevent)
    rw [exec_tick_of_move hd rfl hmove] at h
    cases h
    exact ⟨hkept ▸ hmove, (tickResult_moved d.stableLevel).imp (congrArg okResponse) (congrArg okResponse)⟩
  case reset =>
    rintro rfl
    cases h
    rfl
  case others =>
    intro hpoll hreset
    obtain ⟨-, -, hgesture, -⟩ := registerWriters i s t h
    exact (hgesture hpoll hreset).1

end Sys2Proof.Machine
end

/-! # Steps and runs of the port -/
section

namespace Sys2Proof.Machine

/-- Settles O3: the port's oldest input is taken, decoded and run. -/
theorem stepRunsDecodedCommand : Obligations.StepRunsDecodedCommand := by
  intro s c rest i hport hdecode
  exact (step_of_input_cons hport).trans (runCommand_ok c i _ hdecode)

theorem step_of_input_nil {s : State} (hport : s.input = []) : step s = .next s := by
  simp only [step, serve, State.takeInput, hport]

/-- Settles O6: every step of the run waits. -/
theorem blockWaitsForCommand : Obligations.BlockWaitsForCommand := by
  intro s hport k
  induction k with
  | zero => rfl
  | succ k ih => rw [run_succ_of_step (M := Sys2Proof.core) (step_of_input_nil hport), ih]

/-- Settles O7: each of the four things a step can do answers a next state and takes what it acts on. -/
theorem everyStepCompletes : Obligations.EveryStepCompletes := by
  intro s
  obtain ⟨hport, hstep⟩ | ⟨rest, hport, hstep⟩ | ⟨c, rest, e, hport, -, hstep⟩ | ⟨c, rest, i, hport, -, hstep⟩ :=
    step_cases s
  · exact ⟨_, hstep, by simp [hport]⟩
  · exact ⟨_, hstep, by simp [hport]⟩
  · exact ⟨_, hstep, by simp [hport]⟩
  · obtain ⟨t, r, hexec, -⟩ := exec_next i { s with input := rest }
    exact ⟨t, hstep.trans hexec, by rw [exec_input hexec, hport, List.tail_cons]⟩

/-- Settles O9: none of the four things a step can do writes the thresholds. -/
theorem thresholdsNeverWritten : Obligations.ThresholdsNeverWritten := by
  intro s t h
  obtain ⟨-, hstep⟩ | ⟨rest, -, hstep⟩ | ⟨c, rest, e, -, -, hstep⟩ | ⟨c, rest, i, -, -, hstep⟩ := step_cases s
  · cases hstep.symm.trans h; rfl
  · cases hstep.symm.trans h; rfl
  · cases hstep.symm.trans h; rfl
  · have hcfg := exec_cfg (hstep.symm.trans h)
    exact hcfg

/-! ## Inputs in port order (R57) -/

theorem runAll_cons_of_exec {i : Instr} {is : List Instr} {s t : State} (h : exec i s = .next t) :
    runAll (i :: is) s = runAll is t := by
  simp only [runAll, h]

theorem actOnAll_cons_of_actOn {x : Input} {xs : List Input} {s t : State} (h : actOn x s = some t) :
    actOnAll (x :: xs) s = actOnAll xs t := by
  simp only [actOnAll, h]

theorem actOn_command_of_decode {c : Command} {i : Instr} (s : State) (h : decode c = .ok i) :
    actOn (.command c) s = runAll [i] s := by
  simp only [actOn, h]

/-- A step acts on the oldest input, and what waits behind it makes no difference. -/
theorem step_eq_actOn {s : State} {x : Input} {behind : List Input} (hport : s.input = x :: behind)
    (rest : List Input) :
    ∃ t, actOn x { s with input := rest } = some t ∧ t.input = rest ∧ step s = .next { t with input := behind } := by
  rw [step_of_input_cons hport]
  cases x with
  | resetInput => exact ⟨_, rfl, rfl, rfl⟩
  | command c =>
    change ∃ t, actOn (.command c) _ = some t ∧ _ ∧ runCommand c _ = _
    cases hdecode : decode c with
    | error e =>
      rw [runCommand_error c e _ hdecode]
      exact ⟨State.raiseCommandError e { s with input := rest }, by simp only [actOn, hdecode], rfl, rfl⟩
    | ok i =>
      obtain ⟨t, r, hexec, -⟩ := exec_next i { s with input := rest }
      rw [runCommand_ok c i _ hdecode, actOn_command_of_decode _ hdecode, runAll_cons_of_exec hexec]
      exact ⟨t, rfl, exec_input hexec, exec_withInput i { s with input := rest } t behind hexec⟩

theorem run_eq_actOnAll (xs rest : List Input) (s : State) (hport : s.input = xs ++ rest) :
    ∃ t, actOnAll xs { s with input := rest } = some t ∧ t.input = rest ∧
      Host.Core.run Sys2Proof.core xs.length s = .next t := by
  induction xs generalizing s with
  | nil =>
    obtain rfl : rest = s.input := hport.symm
    exact ⟨s, rfl, rfl, rfl⟩
  | cons x xs ih =>
    obtain ⟨t, hact, hrest, hstep⟩ := step_eq_actOn hport rest
    obtain ⟨u, hall, hinput, hrun⟩ := ih { t with input := xs ++ rest } rfl
    refine ⟨u, ?_, hinput, (run_succ_of_step (M := Sys2Proof.core) hstep _).trans hrun⟩
    rw [actOnAll_cons_of_actOn hact, ← hall, ← hrest]

/-- Acting on encodings is running the commands (R78). -/
theorem actOnAll_encode (is : List Instr) (s : State) (hwf : ∀ i ∈ is, i.wellFormed = true) :
    actOnAll (is.map (fun i => Input.command (encode i))) s = runAll is s := by
  induction is generalizing s with
  | nil => rfl
  | cons i is ih =>
    obtain ⟨hi, his⟩ := List.forall_mem_cons.mp hwf
    obtain ⟨t, r, hexec, -⟩ := exec_next i s
    have hact : actOn (.command (encode i)) s = some t :=
      (actOn_command_of_decode s (decodeOfEncode i hi)).trans (runAll_cons_of_exec hexec)
    rw [List.map_cons, actOnAll_cons_of_actOn hact, runAll_cons_of_exec hexec, ih t his]

/-- Settles O8: the run acts on the inputs one by one, and encodings are acted on as their commands. -/
theorem inputsTakenInPortOrder : Obligations.InputsTakenInPortOrder := by
  refine ⟨run_eq_actOnAll, fun is rest s hwf hport => ?commands⟩
  case commands =>
    obtain ⟨t, hall, hrest, hrun⟩ := run_eq_actOnAll _ rest s hport
    rw [actOnAll_encode is _ hwf] at hall
    rw [List.length_map] at hrun
    exact ⟨t, hall, hrest, hrun⟩

end Sys2Proof.Machine
end

/-! # The invariants -/
section

namespace Sys2Proof.Machine

/-! ## The counters (R39) -/

/-- The counter invariants speak of the gesture registers alone. -/
theorem counterInv_of_sameGesture {s t : State} (hsame : SameGesture t s) (hinv : CounterInv s) : CounterInv t := by
  obtain ⟨hstate, hclicks, hsteps, -⟩ := hsame
  simpa only [CounterInv, hstate, hclicks, hsteps] using hinv

/-- A state freshly cleared has the counter invariants, by RESET and by power-on reset alike. -/
theorem counterInv_of_cleared {s : State} (hclicks : s.clickCount = 0#8) (hsteps : s.stepCount = 0#8)
    (hstate : s.state = .idle) : CounterInv s := by
  simp [CounterInv, hclicks, hsteps, hstate]

/-- One evaluation keeps the counter invariants: a click is counted before it is looked at, and each counter is cleared
on the way to the states that want it 0. -/
theorem counterInv_poll {level : Level} {now : Word} {s : State} (hinv : CounterInv s) :
    CounterInv (poll level now s) := by
  have hcount : ∀ c : Byte, BitVec.ofNat 8 (min (c.toNat + 1) 255) ≠ 0#8 := fun c =>
    satInc8_eq_ofNat c ▸ satInc8_ne_zero c
  cases hs : s.state with
  | idle => rw [poll_idle level now hs]; split <;> simp_all [CounterInv]
  | press => rw [poll_press level now hs]; simp_all [CounterInv]
  | waitHold => rw [poll_waitHold level now hs]; split_ifs <;> simp_all [CounterInv]
  | hold => rw [poll_hold level now hs]; simp_all [CounterInv]
  | waitStep => rw [poll_waitStep level now hs]; split_ifs <;> simp_all [CounterInv]
  | step => rw [poll_step level now hs]; simp_all [CounterInv]
  | waitNextStep => rw [poll_waitNextStep level now hs]; split_ifs <;> simp_all [CounterInv]
  | releaseHold => rw [poll_releaseHold level now hs]; simp_all [CounterInv]
  | releaseStep => rw [poll_releaseStep level now hs]; simp_all [CounterInv]
  | click => rw [poll_click level now hs]; simp_all [CounterInv]
  | release =>
    rw [poll_release level now hs]
    split_ifs with hc
    · have hsome : s.clickCount ≠ 0#8 := by bv_omega
      simp_all [CounterInv]
    · have hnone : s.clickCount = 0#8 := by bv_omega
      simp_all [CounterInv]
  | waitClicks => rw [poll_waitClicks level now hs]; split_ifs <;> simp_all [CounterInv]
  | clicks => rw [poll_clicks level now hs]; simp_all [CounterInv]
  | waitTimeout => rw [poll_waitTimeout level now hs]; split_ifs <;> simp_all [CounterInv]
  | timeout => rw [poll_timeout level now hs]; simp_all [CounterInv]

theorem counterInv_exec {i : Instr} {s t : State} (hinv : CounterInv s) (h : exec i s = .next t) : CounterInv t := by
  obtain ⟨-, now, level, -, hsame⟩ | ⟨-, hsame⟩ | ⟨-, -, hsame⟩ := gesture_cases h
  · exact counterInv_of_sameGesture hsame (counterInv_poll hinv)
  · exact counterInv_of_sameGesture hsame (counterInv_of_cleared rfl rfl rfl)
  · exact counterInv_of_sameGesture hsame hinv

/-! ## The settle timer (R37) -/

/-- The debounce invariant speaks of the filter registers alone. -/
theorem debounceInv_of_sameFilter {s t : State} (hsame : SameFilter t s) (hinv : DebounceInv s) : DebounceInv t := by
  obtain ⟨hstable, hcandidate, hpending, -⟩ := hsame
  simpa only [DebounceInv, hstable, hcandidate, hpending] using hinv

/-- After a sample the filter has the invariant, whatever it held before: the candidate is the raw level, and the timer
runs exactly where the stable level still is the other one. -/
theorem debounceInv_debounce (raw : Level) (now : Word) (s : State) : DebounceInv (debounce raw now s) := by
  obtain ⟨heq, h⟩ | ⟨-, -, h⟩ | ⟨hne, -, h⟩ := debounce_cases raw now s <;> simp_all [DebounceInv]

theorem sameFilter_poll (level : Level) (now : Word) (s : State) : SameFilter (poll level now s) s :=
  ⟨poll_stableLevel level now s, poll_dbCandidate level now s, poll_dbPending level now s, poll_dbTimestamp level now s⟩

theorem debounceInv_exec {i : Instr} {s t : State} (hinv : DebounceInv s) (h : exec i s = .next t) :
    DebounceInv t := by
  cases commandEffect_of_exec h with
  | debounce l now r => exact debounceInv_debounce l now s
  | tick l now r => exact debounceInv_of_sameFilter (sameFilter_poll _ now _) (debounceInv_debounce l now s)
  | poll l now r => exact debounceInv_of_sameFilter (sameFilter_poll l now s) hinv
  | reset | nop | query => exact hinv

/-! ## Steps (R37, R39) -/

/-- An invariant of the registers that power-on reset establishes and every command keeps is kept by every step: a step
that waits or turns a command away writes no register. -/
theorem step_keeps {P : State → Prop} (hsame : ∀ s t, SameRegisters t s → P s → P t)
    (hreset : ∀ s : State, P s.powerOnReset) (hexec : ∀ i s t, P s → exec i s = .next t → P t) {s t : State}
    (hinv : P s) (h : step s = .next t) : P t := by
  obtain ⟨-, hstep⟩ | ⟨rest, -, hstep⟩ | ⟨c, rest, e, -, -, hstep⟩ | ⟨c, rest, i, -, -, hstep⟩ := step_cases s
  · cases hstep.symm.trans h
    exact hinv
  · cases hstep.symm.trans h
    exact hreset _
  · cases hstep.symm.trans h
    exact hsame s _ ⟨⟨rfl, rfl, rfl, rfl⟩, rfl, rfl, rfl, rfl⟩ hinv
  · have htaken : P { s with input := rest } := hsame s _ ⟨⟨rfl, rfl, rfl, rfl⟩, rfl, rfl, rfl, rfl⟩ hinv
    exact hexec i _ t htaken (hstep.symm.trans h)

theorem counterInv_powerOnReset (s : State) : CounterInv s.powerOnReset := counterInv_of_cleared rfl rfl rfl

theorem debounceInv_powerOnReset (s : State) : DebounceInv s.powerOnReset := by
  simp [DebounceInv]

/-- Settles O44: the rows of the table and the resets keep the counters in step with the state. -/
theorem everyStepKeepsCounterInvariants : Obligations.EveryStepKeepsCounterInvariants :=
  fun _ _ => step_keeps (fun _ _ hsame => counterInv_of_sameGesture hsame.1) counterInv_powerOnReset
    fun _ _ _ => counterInv_exec

/-- Settles O45: every sample establishes the invariant, and no other command writes the filter. -/
theorem everyStepKeepsDebounceInvariant : Obligations.EveryStepKeepsDebounceInvariant :=
  fun _ _ => step_keeps (fun _ _ hsame => debounceInv_of_sameFilter hsame.2) debounceInv_powerOnReset
    fun _ _ _ => debounceInv_exec

/-- Settles O46: power-on reset clears what both invariants speak of. -/
theorem resetIsGood : Obligations.ResetIsGood := by
  refine ⟨⟨debounceInv_powerOnReset State.reset, counterInv_powerOnReset State.reset⟩, fun s rest hport => ?_⟩
  exact ⟨_, step_of_resetInput hport, debounceInv_powerOnReset _, counterInv_powerOnReset _⟩

/-! ## Release (R39) -/

/-- The rows into Release, with what they do to `clickCount` (R133, R134). -/
theorem sourceTable_into_release :
    ∀ r ∈ sourceTable, r.target = .release →
      (r.source = .click ∧ r.clicks = .keep) ∨
      ((r.source = .releaseHold ∨ r.source = .releaseStep) ∧ r.clicks = .clear) := by
  simp [sourceTable]

/-- Settles O47: the row from Click keeps a count that is not 0, and the rows from the other two clear it. -/
theorem releaseCountByOrigin : Obligations.ReleaseCountByOrigin := by
  rintro i s t ⟨-, -, hcounted, -⟩ h htarget hmove
  obtain ⟨-, now, level, -, hstate, hclicks, -⟩ | ⟨-, hstate, -⟩ | ⟨-, -, hstate, -⟩ := gesture_cases h
  · rw [hstate] at htarget
    rw [hclicks]
    obtain hstay | ⟨r, hr, hsource, hrow⟩ := poll_eq_self_or_row level now s
    · exact absurd (hstay ▸ htarget) hmove
    · rw [hrow] at htarget ⊢
      rw [hsource]
      obtain ⟨hclick, hkeep⟩ | ⟨hhold, hclear⟩ := sourceTable_into_release r hr htarget
      · have hsome : s.clickCount ≠ 0#8 := hcounted (.inl (hsource.trans hclick))
        refine .inl ⟨hclick, ?_⟩
        simp only [TableRow.apply, hkeep, CounterEffect.apply]
        bv_omega
      · exact .inr ⟨hhold, by simp only [TableRow.apply, hclear, CounterEffect.apply]⟩
  · cases hstate.symm.trans htarget
  · exact absurd (hstate ▸ htarget) hmove

end Sys2Proof.Machine
end

/-! # What no command can tell apart -/
section

namespace Sys2Proof.Machine

/-! ## Registers that stay hidden (R27, R35, R38) -/
section

variable {s t : State} {level : Level} {now : Word}

theorem Indistinguishable.state_eq (h : Indistinguishable s t) : s.state = t.state := h.1

theorem Indistinguishable.clickCount_eq (h : Indistinguishable s t) : s.clickCount = t.clickCount := h.2.1

theorem Indistinguishable.stepCount_eq (h : Indistinguishable s t) : s.stepCount = t.stepCount := h.2.2.1

theorem Indistinguishable.stableLevel_eq (h : Indistinguishable s t) : s.stableLevel = t.stableLevel := h.2.2.2.1

theorem Indistinguishable.input_eq (h : Indistinguishable s t) : s.input = t.input := by
  obtain ⟨-, -, -, -, -, -, -, -, hinput, -⟩ := h
  exact hinput

/-- The rows on the time since the state was entered start where that time is not hidden (R38). -/
theorem sourceTable_elapsed_source {threshold : Cfg → Word} :
    ∀ r ∈ sourceTable, r.condition = .elapsedAtLeast threshold → r.source ≠ .idle ∧ r.source ≠ .press := by
  simp [sourceTable]

/-- A row that leads to a state where the entry time shows sets it, or starts where it shows (R38). -/
theorem sourceTable_shows_entry :
    ∀ r ∈ sourceTable, r.target ≠ .idle → r.target ≠ .press →
      r.resetsTimer = true ∨ (r.source ≠ .idle ∧ r.source ≠ .press) := by
  simp [sourceTable]

theorem fires_congr (h : Indistinguishable s t) {r : TableRow} (hr : r ∈ sourceTable) :
    r.fires level now s = r.fires level now t := by
  obtain ⟨hstate, hclicks, -, -, -, -, hentered, hcfg, -, -⟩ := h
  by_cases hsource : s.state = r.source
  · have hholds : r.condition.holds level now s = r.condition.holds level now t := by
      cases hc : r.condition with
      | elapsedAtLeast threshold =>
        obtain ⟨hidle, hpress⟩ := sourceTable_elapsed_source r hr hc
        simp only [RowCondition.holds, hcfg, hentered (hsource ▸ hidle) (hsource ▸ hpress)]
      | someClicks | noClicks => simp only [RowCondition.holds, hclicks]
      | unconditional | released | pressed => rfl
    simp only [TableRow.fires, hstate, hholds]
  · simp [TableRow.fires, hsource, ← hstate]

theorem firingRows_congr (h : Indistinguishable s t) : firingRows level now s = firingRows level now t :=
  List.filter_congr fun _ hr => fires_congr h hr

theorem apply_indistinguishable (h : Indistinguishable s t) {r : TableRow} (hr : r ∈ sourceTable)
    (hsource : s.state = r.source) : Indistinguishable (r.apply now s) (r.apply now t) := by
  obtain ⟨-, hclicks, hsteps, hstable, hpending, hsince, hentered, hcfg, hinput, hresponse⟩ := h
  refine ⟨rfl, ?_, ?_, hstable, hpending, hsince, fun hidle hpress => ?entered, hcfg, hinput, hresponse⟩
  · simp only [TableRow.apply, hclicks]
  · simp only [TableRow.apply, hsteps]
  case entered =>
    obtain hresets | ⟨hidle', hpress'⟩ := sourceTable_shows_entry r hr hidle hpress
    · simp only [TableRow.apply, hresets, if_true]
    · simp only [TableRow.apply, hentered (hsource ▸ hidle') (hsource ▸ hpress')]

theorem poll_indistinguishable (h : Indistinguishable s t) :
    Indistinguishable (poll level now s) (poll level now t) := by
  rw [poll_eq_first_firingRow, poll_eq_first_firingRow, ← firingRows_congr h]
  cases hrows : firingRows level now s with
  | nil => exact h
  | cons r more =>
    obtain ⟨hmem, hsource⟩ := mem_sourceTable_of_mem_firingRows (hrows ▸ List.mem_cons_self)
    exact apply_indistinguishable h hmem hsource

theorem debounce_indistinguishable (h : Indistinguishable s t) :
    Indistinguishable (debounce level now s) (debounce level now t) := by
  obtain ⟨hstate, hclicks, hsteps, hstable, hpending, hsince, hentered, hcfg, hinput, hresponse⟩ := h
  have hstart : settleStart now s = settleStart now t := by
    unfold settleStart
    rw [hpending]
    split_ifs with hp
    · exact hsince (hpending.trans hp)
    · rfl
  by_cases hlevel : level = s.stableLevel
  · rw [debounce_of_eq level now s hlevel, debounce_of_eq level now t (hlevel.trans hstable)]
    exact ⟨hstate, hclicks, hsteps, hstable, rfl, nofun, hentered, hcfg, hinput, hresponse⟩
  · rw [debounce_of_ne level now s hlevel, debounce_of_ne level now t (hstable ▸ hlevel), hstart, hcfg]
    split_ifs
    · exact ⟨hstate, hclicks, hsteps, rfl, rfl, nofun, hentered, rfl, hinput, hresponse⟩
    · exact ⟨hstate, hclicks, hsteps, hstable, rfl, fun _ => rfl, hentered, rfl, hinput, hresponse⟩

theorem respond_indistinguishable (h : Indistinguishable s t) (r : Word) :
    Indistinguishable (s.respond r) (t.respond r) := by
  obtain ⟨hstate, hclicks, hsteps, hstable, hpending, hsince, hentered, hcfg, hinput, -⟩ := h
  exact ⟨hstate, hclicks, hsteps, hstable, hpending, hsince, hentered, hcfg, hinput, rfl⟩

theorem clearGesture_indistinguishable (h : Indistinguishable s t) :
    Indistinguishable s.clearGesture t.clearGesture := by
  obtain ⟨-, -, -, hstable, hpending, hsince, -, hcfg, hinput, hresponse⟩ := h
  exact ⟨rfl, rfl, rfl, hstable, hpending, hsince, fun hidle => absurd rfl hidle, hcfg, hinput, hresponse⟩

theorem changed_congr {s' t' : State} (h : Indistinguishable s t) (h' : Indistinguishable s' t') :
    changed s s' = changed t t' := by
  simp only [changed, h.state_eq, h'.state_eq]

theorem eventQuery_congr (h : Indistinguishable s t) (g : Gesture) (nv : Bool) (n : Byte) :
    eventQuery g nv n s = eventQuery g nv n t := by
  simp only [eventQuery, inState, h.state_eq, h.clickCount_eq]

/-- In Idle and Press every duration is 0, and elsewhere the entry time shows (R38, R179 to R181). -/
theorem durations_congr (h : Indistinguishable s t) (now : Word) :
    pressDuration now s = pressDuration now t ∧ holdDuration now s = holdDuration now t ∧
      stepDuration now s = stepDuration now t := by
  obtain ⟨hstate, -, hsteps, -, -, -, hentered, hcfg, -, -⟩ := h
  simp only [pressDuration, holdDuration, stepDuration, phaseTime, repeatTime, ← hstate, ← hsteps, ← hcfg]
  cases hs : s.state with
  | idle | press => exact ⟨rfl, rfl, rfl⟩
  | _ => simp [hentered (by simp [hs]) (by simp [hs])]

/-- Every command does the same to both states, the answer included. -/
theorem exec_indistinguishable (h : Indistinguishable s t) (i : Instr) :
    ∃ s' t', exec i s = .next s' ∧ exec i t = .next t' ∧ Indistinguishable s' t' := by
  have answers (r : State → Word) (hr : r s = r t) : Indistinguishable (s.respond (r s)) (t.respond (r t)) :=
    hr ▸ respond_indistinguishable h (r s)
  cases i with
  | poll level now =>
    have hpoll : Indistinguishable (poll level now s) (poll level now t) := poll_indistinguishable h
    refine ⟨_, _, rfl, rfl, ?_⟩
    rw [changed_congr h hpoll]
    exact respond_indistinguishable hpoll _
  | tick level now =>
    have hsample : Indistinguishable (debounce level now s) (debounce level now t) := debounce_indistinguishable h
    refine ⟨_, _, rfl, rfl, ?_⟩
    rw [hsample.stableLevel_eq]
    have hpoll := poll_indistinguishable (level := (debounce level now t).stableLevel) (now := now) hsample
    rw [changed_congr hsample hpoll]
    exact respond_indistinguishable hpoll _
  | debounce level now =>
    have hsample : Indistinguishable (debounce level now s) (debounce level now t) := debounce_indistinguishable h
    refine ⟨_, _, rfl, rfl, ?_⟩
    rw [hsample.stableLevel_eq]
    exact respond_indistinguishable hsample _
  | reset => exact ⟨_, _, rfl, rfl, respond_indistinguishable (clearGesture_indistinguishable h) 0#32⟩
  | nop => exact ⟨_, _, rfl, rfl, respond_indistinguishable h 0#32⟩
  | getState => exact ⟨_, _, rfl, rfl, answers (fun s => s.state.code.setWidth 32) (by simp only [h.state_eq])⟩
  | getClicks => exact ⟨_, _, rfl, rfl, answers (fun s => s.clickCount.setWidth 32) (by simp only [h.clickCount_eq])⟩
  | getSteps => exact ⟨_, _, rfl, rfl, answers (fun s => s.stepCount.setWidth 32) (by simp only [h.stepCount_eq])⟩
  | getLevel => exact ⟨_, _, rfl, rfl, answers (fun s => zextBool s.stableLevel) (by simp only [h.stableLevel_eq])⟩
  | isEvent => exact ⟨_, _, rfl, rfl, answers (fun s => zextBool s.state.isEvent) (by simp only [h.state_eq])⟩
  | isPressing => exact ⟨_, _, rfl, rfl, answers (fun s => zextBool s.state.pressing) (by simp only [h.state_eq])⟩
  | getPressTime now | getHoldTime now | getStepTime now | pressFor now | holdFor now | stepFor now =>
    obtain ⟨hpress, hhold, hstep⟩ := durations_congr h now
    refine ⟨_, _, rfl, rfl, ?_⟩
    simp only [hpress, hhold, hstep, h.state_eq]
    exact respond_indistinguishable h _
  | _ => exact ⟨_, _, rfl, rfl, answers (eventQuery _ _ _) (eventQuery_congr h _ _ _)⟩

theorem takeInput_indistinguishable (h : Indistinguishable s t) (rest : List Input) :
    Indistinguishable { s with input := rest } { t with input := rest } := by
  obtain ⟨hstate, hclicks, hsteps, hstable, hpending, hsince, hentered, hcfg, -, hresponse⟩ := h
  exact ⟨hstate, hclicks, hsteps, hstable, hpending, hsince, hentered, hcfg, rfl, hresponse⟩

theorem raiseCommandError_indistinguishable (h : Indistinguishable s t) (e : CommandError) :
    Indistinguishable (s.raiseCommandError e) (t.raiseCommandError e) := by
  obtain ⟨hstate, hclicks, hsteps, hstable, hpending, hsince, hentered, hcfg, hinput, -⟩ := h
  exact ⟨hstate, hclicks, hsteps, hstable, hpending, hsince, hentered, hcfg, hinput, rfl⟩

theorem powerOnReset_indistinguishable (h : Indistinguishable s t) :
    Indistinguishable s.powerOnReset t.powerOnReset := by
  obtain ⟨-, -, -, -, -, -, -, hcfg, hinput, -⟩ := h
  exact ⟨rfl, rfl, rfl, rfl, rfl, nofun, fun hidle => absurd rfl hidle, hcfg, hinput, rfl⟩

theorem runInput_indistinguishable (h : Indistinguishable s t) (x : Input) :
    ∃ s' t', runInput x s = .next s' ∧ runInput x t = .next t' ∧ Indistinguishable s' t' := by
  cases x with
  | resetInput => exact ⟨_, _, rfl, rfl, powerOnReset_indistinguishable h⟩
  | command c =>
    change ∃ s' t', runCommand c s = _ ∧ runCommand c t = _ ∧ _
    cases hdecode : decode c with
    | error e =>
      rw [runCommand_error c e s hdecode, runCommand_error c e t hdecode]
      exact ⟨_, _, rfl, rfl, raiseCommandError_indistinguishable h e⟩
    | ok i =>
      rw [runCommand_ok c i s hdecode, runCommand_ok c i t hdecode]
      exact exec_indistinguishable h i

theorem step_indistinguishable (h : Indistinguishable s t) :
    ∃ s' t', step s = .next s' ∧ step t = .next t' ∧ Indistinguishable s' t' := by
  cases hport : s.input with
  | nil => exact ⟨s, t, step_of_input_nil hport, step_of_input_nil (h.input_eq ▸ hport), h⟩
  | cons x rest =>
    rw [step_of_input_cons hport, step_of_input_cons (h.input_eq ▸ hport)]
    exact runInput_indistinguishable (takeInput_indistinguishable h rest) x

end

theorem run_indistinguishable (k : Nat) {s t : State} (h : Indistinguishable s t) :
    ∃ s' t', Host.Core.run Sys2Proof.core k s = .next s' ∧ Host.Core.run Sys2Proof.core k t = .next t' ∧
      Indistinguishable s' t' := by
  induction k generalizing s t with
  | zero => exact ⟨s, t, rfl, rfl, h⟩
  | succ k ih =>
    obtain ⟨s', t', hs, ht, h'⟩ := step_indistinguishable h
    rw [run_succ_of_step (M := Sys2Proof.core) hs, run_succ_of_step (M := Sys2Proof.core) ht]
    exact ih h'

/-- Settles O59: the relation is kept by the filter, by the table's rows, by every answer and so by every step. -/
theorem hiddenRegistersStayHidden : Obligations.HiddenRegistersStayHidden := by
  intro k s1 s2 t1 t2 h h1 h2
  obtain ⟨s', t', hs, ht, h'⟩ := run_indistinguishable k h
  cases hs.symm.trans h1
  cases ht.symm.trans h2
  exact h'

/-! ## A shifted clock (R17, R243) -/
section

variable (k : Word)

@[simp] theorem shiftStamps_stableLevel (s : State) : (shiftStamps k s).stableLevel = s.stableLevel := rfl

@[simp] theorem shiftStamps_stateEnteredAt (s : State) :
    (shiftStamps k s).stateEnteredAt = s.stateEnteredAt + k := rfl

@[simp] theorem shiftStamps_cfg (s : State) : (shiftStamps k s).cfg = s.cfg := rfl

theorem sub_shift (now since k : Word) : now + k - (since + k) = now - since := elapsed_shift now since k

theorem fires_shift (level : Level) (now : Word) (s : State) (r : TableRow) :
    r.fires level (now + k) (shiftStamps k s) = r.fires level now s := by
  have hholds : r.condition.holds level (now + k) (shiftStamps k s) = r.condition.holds level now s := by
    cases r.condition with
    | elapsedAtLeast threshold => simp only [RowCondition.holds, shiftStamps_cfg, shiftStamps_stateEnteredAt, sub_shift]
    | _ => rfl
  simp only [TableRow.fires, hholds]
  rfl

theorem apply_shift (now : Word) (s : State) (r : TableRow) :
    r.apply (now + k) (shiftStamps k s) = shiftStamps k (r.apply now s) := by
  cases hresets : r.resetsTimer <;> simp [TableRow.apply, shiftStamps, hresets]

theorem poll_shift (level : Level) (now : Word) (s : State) :
    poll level (now + k) (shiftStamps k s) = shiftStamps k (poll level now s) := by
  have hrows : firingRows level (now + k) (shiftStamps k s) = firingRows level now s :=
    List.filter_congr fun r _ => fires_shift k level now s r
  rw [poll_eq_first_firingRow, poll_eq_first_firingRow, hrows]
  cases firingRows level now s with
  | nil => rfl
  | cons r more => exact apply_shift k now s r

theorem settleStart_shift (now : Word) (s : State) :
    settleStart (now + k) (shiftStamps k s) = settleStart now s + k := by
  cases hp : s.dbPending <;> simp [settleStart, shiftStamps, hp]

/-- The filter on a shifted clock; where no timer runs the old timestamp is shifted with the rest. -/
theorem debounce_shift (level : Level) (now : Word) (s : State) :
    debounce level (now + k) (shiftStamps k s) = shiftStamps k (debounce level now s) := by
  by_cases hlevel : level = s.stableLevel
  · rw [debounce_of_eq level now s hlevel, debounce_of_eq level (now + k) (shiftStamps k s) hlevel]
    rfl
  · rw [debounce_of_ne level now s hlevel, debounce_of_ne level (now + k) (shiftStamps k s) hlevel, settleStart_shift,
      sub_shift, shiftStamps_cfg]
    split_ifs <;> rfl

theorem durations_shift (now : Word) (s : State) :
    pressDuration (now + k) (shiftStamps k s) = pressDuration now s ∧
      holdDuration (now + k) (shiftStamps k s) = holdDuration now s ∧
      stepDuration (now + k) (shiftStamps k s) = stepDuration now s := by
  have hphase : phaseTime (now + k) (shiftStamps k s) = phaseTime now s := by
    simp only [phaseTime, shiftStamps_stateEnteredAt, elapsed_shift]
  simp only [pressDuration, holdDuration, stepDuration, hphase]
  exact ⟨rfl, rfl, rfl⟩

/-- A command on the shifted clock does what it does on the other one, shifted. -/
theorem exec_shift {i : Instr} {s t : State} (h : exec i s = .next t) :
    exec (shiftTime k i) (shiftStamps k s) = .next (shiftStamps k t) := by
  cases i with
  | poll level now =>
    cases h
    simp only [shiftTime, exec, execPoll, poll_shift]
    rfl
  | debounce level now =>
    cases h
    simp only [shiftTime, exec, execDebounce, debounce_shift]
    rfl
  | tick level now =>
    cases h
    simp only [shiftTime, exec, execTick, debounce_shift, shiftStamps_stableLevel, poll_shift]
    rfl
  | getPressTime now | getHoldTime now | getStepTime now | pressFor now | holdFor now | stepFor now =>
    cases h
    obtain ⟨hpress, hhold, hstep⟩ := durations_shift k now s
    simp only [shiftTime, exec, execGetPressTime, execGetHoldTime, execGetStepTime, execPressFor, execHoldFor,
      execStepFor, hpress, hhold, hstep]
    rfl
  | _ => cases h; rfl

/-- Settles O60: command by command, each shifted one leads from the shifted state to the shifted state. -/
theorem shiftedClockSameBehaviour : Obligations.ShiftedClockSameBehaviour := by
  intro k is s t h
  induction is generalizing s with
  | nil => cases h; rfl
  | cons i is ih =>
    obtain ⟨u, r, hu, -⟩ := exec_next i s
    rw [runAll_cons_of_exec hu] at h
    rw [List.map_cons, runAll_cons_of_exec (exec_shift k hu), ih u h]

end

end Sys2Proof.Machine
end

/-! # Runs of samples -/
section

namespace Sys2Proof.Machine

/-! ## The filter by itself (R102) -/

theorem sameFilter_debounce_congr {s t : State} (hsame : SameFilter s t) (hms : s.cfg.debounceMs = t.cfg.debounceMs)
    (raw : Level) (now : Word) : SameFilter (debounce raw now s) (debounce raw now t) := by
  obtain ⟨hstable, hcandidate, hpending, hsince⟩ := hsame
  have hstart : settleStart now s = settleStart now t := by simp only [settleStart, hpending, hsince]
  by_cases hraw : raw = s.stableLevel
  · rw [debounce_of_eq raw now s hraw, debounce_of_eq raw now t (hraw.trans hstable)]
    exact ⟨hstable, rfl, rfl, hsince⟩
  · rw [debounce_of_ne raw now s hraw, debounce_of_ne raw now t (hstable ▸ hraw), hstart, hms]
    split_ifs
    · exact ⟨rfl, rfl, rfl, rfl⟩
    · exact ⟨hstable, rfl, rfl, rfl⟩

/-- Settles O24: the filters agree after the sample, and the answer is their stable level. -/
theorem filterDependsOnItsOwnState : Obligations.FilterDependsOnItsOwnState := by
  intro raw now s1 s2 t1 t2 hsame hms h1 h2
  have hfilter := sameFilter_debounce_congr hsame hms raw now
  cases (exec_debounce raw now s1).symm.trans h1
  cases (exec_debounce raw now s2).symm.trans h2
  exact ⟨hfilter, by simp only [hfilter.1]⟩

/-! ## Samples of the other level (R103, R104) -/

/-- What holds in `u` while samples of the level `s` does not hold stable settle, the first of them at `first`. -/
structure SettlesSince (first : Word) (s u : State) : Prop where
  stableLevel : u.stableLevel = s.stableLevel
  cfg : u.cfg = s.cfg
  gesture : SameGesture u s
  pending : u.dbPending = true
  since : u.dbTimestamp = first

section

variable {first now : Word} {s u : State}

theorem SettlesSince.respond (h : SettlesSince first s u) (r : Word) : SettlesSince first s (u.respond r) :=
  ⟨h.stableLevel, h.cfg, h.gesture, h.pending, h.since⟩

theorem settleStart_of_not_pending (h : s.dbPending = false) : settleStart now s = now := by
  simp [settleStart, h]

theorem SettlesSince.settleStart (h : SettlesSince first s u) : settleStart now u = first := by
  simp [Machine.settleStart, h.pending, h.since]

/-- The first sample of the other level starts the settle timer, short of the threshold. -/
theorem settlesSince_debounce_first (hrest : s.dbPending = false) (hlow : 0 < s.cfg.debounceMs.toNat) :
    SettlesSince first s (debounce (!s.stableLevel) first s) := by
  have hstart := settleStart_of_not_pending (now := first) hrest
  rw [debounce_of_ne_of_lt (by simp) (by simpa [hstart] using hlow)]
  exact ⟨rfl, rfl, ⟨rfl, rfl, rfl, rfl⟩, rfl, hstart⟩

/-- Another one short of the threshold leaves the timer running. -/
theorem SettlesSince.debounce_early (h : SettlesSince first s u)
    (hearly : (now - first).toNat < s.cfg.debounceMs.toNat) :
    SettlesSince first s (debounce (!s.stableLevel) now u) := by
  rw [debounce_of_ne_of_lt (by simp [h.stableLevel]) (by rwa [h.settleStart, h.cfg])]
  exact ⟨h.stableLevel, h.cfg, h.gesture, rfl, h.settleStart⟩

/-- One at or past the threshold commits the level. -/
theorem SettlesSince.debounce_late (h : SettlesSince first s u)
    (hlate : s.cfg.debounceMs.toNat ≤ (now - first).toNat) :
    (debounce (!s.stableLevel) now u).stableLevel = !s.stableLevel ∧
      (debounce (!s.stableLevel) now u).dbPending = false := by
  rw [debounce_of_ne_of_le (by simp [h.stableLevel]) (by rwa [h.settleStart, h.cfg])]
  exact ⟨rfl, rfl⟩

end

/-- What each command of a list keeps holds after the list. -/
theorem runAll_map_of_keeps {P : State → Prop} {f : Word → Instr} {times : List Word}
    (hkeeps : ∀ now ∈ times, ∀ u, P u → ∃ v, exec (f now) u = .next v ∧ P v) {u : State} (hu : P u) :
    ∃ v, runAll (times.map f) u = some v ∧ P v := by
  induction times generalizing u with
  | nil => exact ⟨u, rfl, hu⟩
  | cons now times ih =>
    obtain ⟨hnow, htimes⟩ := List.forall_mem_cons.mp hkeeps
    obtain ⟨v, hexec, hv⟩ := hnow u hu
    rw [List.map_cons, runAll_cons_of_exec hexec]
    exact ih htimes hv

/-- Samples of the other level that all come short of the threshold settle and do not commit. -/
theorem runAll_samples_settle {s : State} {first : Word} {later : List Word} (hrest : s.dbPending = false)
    (hearly : ∀ now ∈ first :: later, (now - first).toNat < s.cfg.debounceMs.toNat) :
    ∃ u, runAll ((first :: later).map (Instr.debounce (!s.stableLevel))) s = some u ∧ SettlesSince first s u := by
  obtain ⟨hfirst, hlater⟩ := List.forall_mem_cons.mp hearly
  have hsettles := settlesSince_debounce_first (first := first) hrest (by simpa using hfirst)
  rw [List.map_cons, runAll_cons_of_exec (exec_debounce _ first s)]
  exact runAll_map_of_keeps
    (fun now hnow u hu => ⟨_, exec_debounce _ now u, (hu.debounce_early (hlater now hnow)).respond _⟩)
    (hsettles.respond _)

/-- Settles O25: the early samples settle and the late one commits; with none before it, it starts the timer itself. -/
theorem settledLevelCommits : Obligations.SettledLevelCommits := by
  intro s first last times hrest hhead hearly hlate
  cases times with
  | nil =>
    obtain rfl : last = first := by simpa using hhead
    have hstart := settleStart_of_not_pending (now := last) hrest
    refine ⟨s, _, rfl, rfl, exec_debounce _ last s, ?_⟩
    rw [debounce_of_ne_of_le (by simp) (by rwa [hstart])]
    exact ⟨rfl, rfl⟩
  | cons head later =>
    obtain rfl : head = first := by simpa using hhead
    obtain ⟨u, hrun, hsettles⟩ := runAll_samples_settle hrest hearly
    exact ⟨u, _, hrun, hsettles.stableLevel, exec_debounce _ last u, hsettles.debounce_late hlate⟩

/-- Settles O26: the samples settle without a commit, and the stable level stops the timer. -/
theorem glitchNeverCommits : Obligations.GlitchNeverCommits := by
  intro s first back later hrest hearly
  obtain ⟨u, hrun, hsettles⟩ := runAll_samples_settle hrest hearly
  refine ⟨u, _, hrun, hsettles.stableLevel, exec_debounce _ back u, ?_⟩
  rw [debounce_of_eq _ back u hsettles.stableLevel.symm]
  exact ⟨hsettles.stableLevel, rfl, hsettles.gesture⟩

/-! ## TICKs from power-on with the button held (R235) -/

/-- In Idle with the level released after the sample, TICK does what the sample does. -/
theorem exec_tick_idle_released {level : Level} {now : Word} {s d : State} (hd : debounce level now s = d)
    (hidle : d.state = .idle) (hreleased : d.stableLevel = false) :
    ∃ r, exec (.tick level now) s = .next (d.respond r) := by
  have hp : poll d.stableLevel now d = d := (poll_idle _ now hidle).trans (if_neg (by simp [hreleased]))
  exact ⟨_, by rw [exec_tick level now s hd, hp]⟩

/-- In Idle, a TICK whose sample commits the pressed level enters Press with both bits of its result 1. -/
theorem exec_tick_idle_commits {now : Word} {s d : State} (hd : debounce true now s = d) (hidle : d.state = .idle)
    (hpressed : d.stableLevel = true) :
    exec (.tick true now) s = .next { d with state := .press, response := okResponse 3#32 } := by
  have hp : poll d.stableLevel now d = { d with state := .press } := (poll_idle _ now hidle).trans (if_pos hpressed)
  rw [exec_tick_of_move hd hp (by simp [hidle]), hpressed]
  rfl

/-- Settles O35: the TICKs before settle in Idle, and the last one's sample commits the level the evaluation sees. -/
theorem heldButtonAtPowerOnPresses : Obligations.HeldButtonAtPowerOnPresses := by
  intro s first last between hearly hlate
  obtain ⟨hfirst, hbetween⟩ := List.forall_mem_cons.mp hearly
  have settling (now : Word) (u : State) (h : SettlesSince first s.powerOnReset (debounce true now u)) :
      ∃ v, exec (.tick true now) u = .next v ∧ SettlesSince first s.powerOnReset v := by
    obtain ⟨r, hr⟩ := exec_tick_idle_released rfl h.gesture.1 h.stableLevel
    exact ⟨_, hr, h.respond r⟩
  obtain ⟨u₁, hexec, hsettles₁⟩ :=
    settling first s.powerOnReset (settlesSince_debounce_first rfl (by simpa using hfirst))
  obtain ⟨u, hrun, hsettles⟩ := runAll_map_of_keeps (f := Instr.tick true)
    (fun now hnow u hu => settling now u (hu.debounce_early (hbetween now hnow))) hsettles₁
  obtain ⟨hpressed, -⟩ := hsettles.debounce_late hlate
  have hidle : (debounce true last u).state = .idle := (debounce_state true last u).trans hsettles.gesture.1
  refine ⟨u, _, ?_, hsettles.gesture.1, hsettles.stableLevel, exec_tick_idle_commits rfl hidle hpressed, rfl, hpressed,
    rfl⟩
  rw [List.map_cons, runAll_cons_of_exec hexec, hrun]

end Sys2Proof.Machine
end

/-! # Where POLLs lead -/
section

namespace Sys2Proof.Machine

/-! ## Reachability by POLLs (R149) -/

/-- Some POLLs lead from the state to one in `h`. -/
def Reaches (s : State) (h : Gesture) : Prop :=
  ∃ (calls : List (Level × Word)) (t : State),
    runAll (calls.map (fun c => Instr.poll c.1 c.2)) s = some t ∧ t.state = h

/-- From every state in `g`, whatever its registers and thresholds, some POLLs lead to a state in `h`. -/
def Leads (g h : Gesture) : Prop := ∀ s : State, s.state = g → Reaches s h

section

variable {g h k : Gesture} {s : State}

theorem Leads.refl (g : Gesture) : Leads g g := fun s hs => ⟨[], s, rfl, hs⟩

theorem reaches_of_poll (level : Level) (now : Word) (hnext : ∀ r, Reaches ((poll level now s).respond r) h) :
    Reaches s h := by
  obtain ⟨calls, t, hrun, ht⟩ := hnext _
  exact ⟨(level, now) :: calls, t, (runAll_cons_of_exec (exec_poll level now s)).trans hrun, ht⟩

/-- A time at which every threshold is reached: one short of a full turn of the clock after the state was entered. -/
def lateTime (s : State) : Word := s.stateEnteredAt + 0xFFFFFFFF#32

theorem reached_lateTime (s : State) (threshold : Word) :
    reached threshold (elapsed (lateTime s) s.stateEnteredAt) = true := by
  have hfull : elapsed (lateTime s) s.stateEnteredAt = 0xFFFFFFFF#32 := by
    simp only [elapsed, lateTime]
    bv_omega
  rw [reached_iff, hfull]
  exact Nat.le_of_lt_succ threshold.isLt

/-- Where a late POLL leads by its level alone; from Release that depends on `clickCount` instead. -/
def lateTarget (level : Level) : Gesture → Option Gesture
  | .idle => some (if level then .press else .idle)
  | .press => some .waitHold
  | .waitHold => some (if level then .hold else .click)
  | .hold => some .waitStep
  | .waitStep => some (if level then .step else .releaseHold)
  | .step => some .waitNextStep
  | .waitNextStep => some (if level then .step else .releaseStep)
  | .releaseHold | .releaseStep | .click => some .release
  | .release => none
  | .waitClicks => some (if level then .press else .clicks)
  | .clicks => some .waitTimeout
  | .waitTimeout => some (if level then .press else .timeout)
  | .timeout => some .idle

theorem poll_lateTime_state {level : Level} (htarget : lateTarget level s.state = some k) :
    (poll level (lateTime s) s).state = k := by
  rw [poll_state]
  cases hs : s.state with
  | release => rw [hs] at htarget; cases htarget
  | _ => rw [hs] at htarget; cases htarget; cases level <;> simp [reached_lateTime]

/-- Where late POLLs with these levels lead. -/
def latePath : List Level → Gesture → Option Gesture
  | [], g => some g
  | level :: levels, g => (lateTarget level g).bind (latePath levels)

/-- A way by late POLLs can be put before any other way. -/
theorem leads_of_latePath {levels : List Level} (hpath : latePath levels g = some k) (hleads : Leads k h) :
    Leads g h := by
  induction levels generalizing g with
  | nil => cases hpath; exact hleads
  | cons level levels ih =>
    obtain ⟨g', htarget, hrest⟩ := Option.bind_eq_some_iff.mp hpath
    rintro s rfl
    exact reaches_of_poll level (lateTime s) fun r => ih hrest _ (poll_lateTime_state htarget)

/-! ### Through Release, by the count -/

/-- From Release both targets lead to Idle, so the count does not matter (R135). -/
theorem leads_release_of_idle (hleads : Leads .idle h) : Leads .release h := by
  intro s hs
  refine reaches_of_poll false 0#32 fun r => ?_
  have hstate : (poll false 0#32 s).state = if s.clickCount = 0#8 then .waitTimeout else .waitClicks := by
    rw [poll_state, hs]
  by_cases hc : s.clickCount = 0#8
  · exact leads_of_latePath (levels := [false, false]) rfl hleads _ (hstate.trans (if_pos hc))
  · exact leads_of_latePath (levels := [false, false, false, false]) rfl hleads _ (hstate.trans (if_neg hc))

/-- A click has just been counted when Release is reached from WaitHold, so it leads to WaitClicks (R125,
R134, R135). -/
theorem leads_waitHold_of_waitClicks (hleads : Leads .waitClicks h) : Leads .waitHold h := by
  have hrelease (s : State) (hs : s.state = .release) (hc : s.clickCount ≠ 0#8) : Reaches s h :=
    reaches_of_poll false 0#32 fun r => hleads _ (by simp [poll_state, hs, hc])
  have hclick (s : State) (hs : s.state = .click) (hc : s.clickCount ≠ 0#8) : Reaches s h :=
    reaches_of_poll false 0#32 fun r => hrelease _ (by simp [poll_click _ _ hs]) (by simpa [poll_click _ _ hs] using hc)
  intro s hs
  refine reaches_of_poll false 0#32 fun r => hclick _ ?_ ?_
  · simp [poll_waitHold _ _ hs]
  · simpa [poll_waitHold _ _ hs, ← satInc8_eq_ofNat] using satInc8_ne_zero s.clickCount

end

/-- Every state leads to Idle, and so to wherever Idle leads. -/
theorem leads_of_idle {h : Gesture} (hleads : Leads .idle h) (g : Gesture) : Leads g h := by
  have hrelease := leads_release_of_idle hleads
  cases g with
  | idle => exact hleads
  | press => exact leads_of_latePath (levels := [false, false, false]) rfl hrelease
  | waitHold => exact leads_of_latePath (levels := [false, false]) rfl hrelease
  | hold => exact leads_of_latePath (levels := [false, false, false]) rfl hrelease
  | waitStep => exact leads_of_latePath (levels := [false, false]) rfl hrelease
  | step => exact leads_of_latePath (levels := [false, false, false]) rfl hrelease
  | waitNextStep => exact leads_of_latePath (levels := [false, false]) rfl hrelease
  | releaseHold | releaseStep | click => exact leads_of_latePath (levels := [false]) rfl hrelease
  | release => exact hrelease
  | waitClicks => exact leads_of_latePath (levels := [false, false, false, false]) rfl hleads
  | clicks => exact leads_of_latePath (levels := [false, false, false]) rfl hleads
  | waitTimeout => exact leads_of_latePath (levels := [false, false]) rfl hleads
  | timeout => exact leads_of_latePath (levels := [false]) rfl hleads

theorem leads_from_idle (g : Gesture) : Leads .idle g := by
  have hidle {h : Gesture} : Leads .waitHold h → Leads .idle h := leads_of_latePath (levels := [true, true]) rfl
  have hclicks {h : Gesture} (hleads : Leads .waitClicks h) : Leads .idle h :=
    hidle (leads_waitHold_of_waitClicks hleads)
  cases g with
  | idle => exact .refl .idle
  | press => exact leads_of_latePath (levels := [true]) rfl (.refl .press)
  | waitHold => exact hidle (.refl .waitHold)
  | hold => exact hidle (leads_of_latePath (levels := [true]) rfl (.refl .hold))
  | waitStep => exact hidle (leads_of_latePath (levels := [true, true]) rfl (.refl .waitStep))
  | step => exact hidle (leads_of_latePath (levels := [true, true, true]) rfl (.refl .step))
  | waitNextStep => exact hidle (leads_of_latePath (levels := [true, true, true, true]) rfl (.refl .waitNextStep))
  | releaseHold => exact hidle (leads_of_latePath (levels := [true, true, false]) rfl (.refl .releaseHold))
  | releaseStep => exact hidle (leads_of_latePath (levels := [true, true, true, true, false]) rfl (.refl .releaseStep))
  | click => exact hidle (leads_of_latePath (levels := [false]) rfl (.refl .click))
  | release => exact hidle (leads_of_latePath (levels := [false, false]) rfl (.refl .release))
  | waitClicks => exact hclicks (.refl .waitClicks)
  | clicks => exact hclicks (leads_of_latePath (levels := [false]) rfl (.refl .clicks))
  | waitTimeout => exact hclicks (leads_of_latePath (levels := [false, false]) rfl (.refl .waitTimeout))
  | timeout => exact hclicks (leads_of_latePath (levels := [false, false, false]) rfl (.refl .timeout))

/-- Settles O39: every state leads to Idle, and Idle to every state. -/
theorem pollsReachEveryState : Obligations.PollsReachEveryState :=
  fun s g => leads_of_idle (leads_from_idle g) s.state s rfl

/-- Settles O41: at a whole number of periods the threshold row fires once, and the counter has room. -/
theorem latePollMakesOneStep : Obligations.LatePollMakesOneStep := by
  intro s now k hs hk hroom he
  have hlate : s.cfg.stepPeriodMs.toNat ≤ (now - s.stateEnteredAt).toNat := he ▸ Nat.le_mul_of_pos_left _ hk
  refine ⟨_, (pollWaits_waitNextStep hs).thresholdRow rfl hlate, rfl, ?count, rfl⟩
  case count =>
    rw [BitVec.toNat_ofNat]
    omega

end Sys2Proof.Machine
end

/-! # The event queries -/
section

namespace Sys2Proof.Machine

theorem eventQuery_eq_bit (g : Gesture) (nv : Bool) (n : Byte) (s : State) :
    eventQuery g nv n s = bit (s.state = g ∧ (nv = true → s.clickCount = n)) :=
  zextBool_eq_bit (by rw [evq_iff, inState_iff])

/-- Settles O49: each query answers for its own state. -/
theorem eventQueryAnswers : Obligations.EventQueryAnswers := by
  intro nv n s
  simp only [← eventQuery_eq_bit]
  exact ⟨rfl, rfl, rfl, rfl, rfl, rfl, rfl, rfl, rfl⟩

/-- The unqualified event query of each event state. -/
def plainEventQueries : List (Gesture × Instr) :=
  [(.press, .evPress false 0#8), (.click, .evClick false 0#8), (.hold, .evHold false 0#8),
    (.releaseHold, .evReleaseHold false 0#8), (.step, .evStep false 0#8), (.releaseStep, .evReleaseStep false 0#8),
    (.release, .evRelease false 0#8), (.clicks, .evHasClicks false 0#8), (.timeout, .evTimeout false 0#8)]

theorem exec_plainEventQuery {p : Gesture × Instr} (hp : p ∈ plainEventQueries) (s : State) :
    exec p.2 s = .next (s.respond (eventQuery p.1 false 0#8 s)) := by
  revert p
  simp only [plainEventQueries, List.forall_mem_cons]
  exact ⟨rfl, rfl, rfl, rfl, rfl, rfl, rfl, rfl, rfl, nofun⟩

theorem state_eq_of_plainEventQuery {p : Gesture × Instr} {s t : State} (hp : p ∈ plainEventQueries)
    (h : exec p.2 s = .next t) (hone : t.response = okResponse 1#32) : s.state = p.1 := by
  cases (exec_plainEventQuery hp s).symm.trans h
  by_contra hne
  rw [State.respond_response, eventQuery_eq_bit, bit, if_neg (fun hflag => hne hflag.1)] at hone
  cases hone

/-- Settles O50: a flag that is 1 names the state, and each event state has one query. -/
theorem atMostOneEventFlag : Obligations.AtMostOneEventFlag := by
  intro i j s t u hi hj ht hu hone hone'
  obtain ⟨p, hp, rfl⟩ := List.mem_map.mp (show i ∈ plainEventQueries.map Prod.snd from hi)
  obtain ⟨q, hq, rfl⟩ := List.mem_map.mp (show j ∈ plainEventQueries.map Prod.snd from hj)
  have hstates : p.1 = q.1 :=
    (state_eq_of_plainEventQuery hp ht hone).symm.trans (state_eq_of_plainEventQuery hq hu hone')
  have hunique : ∀ p ∈ plainEventQueries, ∀ q ∈ plainEventQueries, p.1 = q.1 → p.2 = q.2 := by decide
  exact hunique p hp q hq hstates

/-- Settles O2: after power-on reset the state is Idle and the stable level 0. -/
theorem flagsReadZeroAfterPowerOn : Obligations.FlagsReadZeroAfterPowerOn := by
  intro i hi s rest hport
  obtain ⟨u, hexec, hanswer⟩ : ∃ u, exec i (State.powerOnReset { s with input := rest }) = .next u ∧
      u.response = okResponse 0#32 := by
    revert i
    simp only [List.forall_mem_cons]
    refine ⟨?_, ?_, ?_, ?_, ?_, ?_, ?_, ?_, ?_, ?_, ?_, ?_, nofun⟩ <;> exact ⟨_, rfl, rfl⟩
  exact ⟨_, u, step_of_resetInput hport, hexec, hanswer⟩

end Sys2Proof.Machine
end

/-! # The durations and the clock -/
section

namespace Sys2Proof.Machine

/-- The read-out of a duration is at least a 32-bit bound exactly when the duration is (R81). -/
theorem le_saturate32_iff (ms : Word) (d : Nat) : ms.toNat ≤ (saturate32 d).toNat ↔ ms.toNat ≤ d := by
  have hms := ms.isLt
  rw [saturate32_toNat]
  omega

theorem holding_iff_mem (g : Gesture) :
    g.holding = true ↔ g ∈ [Gesture.hold, .waitStep, .step, .waitNextStep] := by
  cases g <;> decide

theorem stepping_iff_mem (g : Gesture) : g.stepping = true ↔ g ∈ [Gesture.step, .waitNextStep] := by
  cases g <;> decide

/-- Inside its subset a predicate answers as a comparison with the saturated read-out does. -/
theorem zextBool_lasted_eq_bit {inSubset : Bool} {d : Nat} {ms : Word} (hin : inSubset = true) :
    zextBool (lasted inSubset d ms) = bit (ms.toNat ≤ (saturate32 d).toNat) :=
  zextBool_eq_bit (by rw [lasted_iff, le_saturate32_iff, and_iff_right hin])

theorem response_eq_of_next {s : State} {r r' : Word}
    (h : (Host.Outcome.next (s.respond r) : Host.Outcome State Fault Refusal) =
      .next { s with response := okResponse r' }) : r = r' := by
  injection h with h
  injection congrArg State.response h with h
  injection h

/-- Settles O58: the read-out is the saturated duration, which a 32-bit bound cannot tell from the exact one. -/
theorem predicatesAgreeWithReadouts : Obligations.PredicatesAgreeWithReadouts := by
  intro now ms r s
  refine ⟨fun hin hread => ?press, fun hin hread => ?hold, fun hin hread => ?step⟩
  case press =>
    obtain rfl : saturate32 (pressDuration now s) = r := response_eq_of_next hread
    rw [← zextBool_lasted_eq_bit ((pressing_iff_mem s.state).mpr hin)]
    rfl
  case hold =>
    obtain rfl : saturate32 (holdDuration now s) = r := response_eq_of_next hread
    rw [← zextBool_lasted_eq_bit ((holding_iff_mem s.state).mpr hin)]
    rfl
  case step =>
    obtain rfl : saturate32 (stepDuration now s) = r := response_eq_of_next hread
    rw [← zextBool_lasted_eq_bit ((stepping_iff_mem s.state).mpr hin)]
    rfl

section

variable (now : Word) (s : State)

/-- The press duration counts the hold time, and the hold duration counts the step duration (R179 to R181). -/
theorem durations_le :
    stepDuration now s ≤ holdDuration now s ∧ holdDuration now s ≤ pressDuration now s := by
  cases hs : s.state with
  | hold | waitStep =>
    rw [pressDuration_beforeStep now (by simp [hs]), holdDuration_beforeStep now (by simp [hs]),
      stepDuration_outside now (by rw [hs]; rfl)]
    omega
  | step | waitNextStep =>
    rw [pressDuration_stepping now (by simp [hs]), holdDuration_stepping now (by simp [hs]),
      stepDuration_stepping now (by simp [hs])]
    omega
  | _ =>
    rw [holdDuration_outside now (by rw [hs]; rfl), stepDuration_outside now (by rw [hs]; rfl)]
    exact ⟨Nat.le_refl 0, Nat.zero_le _⟩

/-- Two thresholds, 255 periods and one phase are each below their multiple of 2^32, 258 in all (R19). -/
theorem pressDuration_lt : pressDuration now s < 2 ^ 41 := by
  have hhold := s.cfg.holdMs.isLt
  have hstep := s.cfg.stepMs.isLt
  have hphase := (now - s.stateEnteredAt).isLt
  have hrepeat : s.stepCount.toNat * s.cfg.stepPeriodMs.toNat ≤ 255 * (2 ^ 32 - 1) :=
    Nat.mul_le_mul (Nat.le_of_lt_succ s.stepCount.isLt) (Nat.le_pred_of_lt s.cfg.stepPeriodMs.isLt)
  cases hs : s.state with
  | waitHold => rw [pressDuration_waitHold now hs]; omega
  | hold | waitStep => rw [pressDuration_beforeStep now (by simp [hs])]; omega
  | step | waitNextStep => rw [pressDuration_stepping now (by simp [hs])]; omega
  | press => rw [pressDuration_press now hs]; omega
  | _ => rw [pressDuration_outside now (by rw [hs]; rfl)]; omega

end

/-- Settles O22: the press duration is the longest of the three. -/
theorem durationsBelowTwoToTheFortyOne : Obligations.DurationsBelowTwoToTheFortyOne := by
  intro now s
  have hpress := pressDuration_lt now s
  obtain ⟨hstep, hhold⟩ := durations_le now s
  exact ⟨hpress, by omega, by omega⟩

/-- Settles O20: the wrapping clock is counted modulo 2^32, in which an interval below 2^32 keeps its value (R17). -/
theorem elapsedIsTrueInterval : Obligations.ElapsedIsTrueInterval := by
  intro start interval hbelow
  rw [elapsed_eq, BitVec.ofNat_add, BitVec.add_comm, BitVec.add_sub_cancel, BitVec.toNat_ofNat, Nat.mod_eq_of_lt hbelow]

end Sys2Proof.Machine
end
